-- ==== Sys2Proof/Word.lean ====
section
/-! DEFINITION. The word types of the block: bytes, the 16-bit CRC register, the 32-bit words of SHA-256, bus
addresses, the two block formats, and fixed-length byte buffers (00_scope.md R7, R8). -/

namespace Sys2Proof

/-- `u8` of 00_scope.md R7. -/
abbrev Byte := BitVec 8

/-- `u16`: the CRC register and the length field of an extended frame. -/
abbrev Half := BitVec 16

/-- `u32`: the words of SHA-256. -/
abbrev Word := BitVec 32

/-- A bus address, `addr[9:0]` (20_memory.md R53). -/
abbrev Addr := BitVec 10

/-- A bus transaction word, 19 bits (30_encoding.md R68). -/
abbrev BusWord := BitVec 19

/-- A command word, 16 bits (30_encoding.md R69). -/
abbrev CmdWord := BitVec 16

/-- A buffer of the block: a fixed-length byte sequence (00_scope.md R8). -/
abbrev Buf (n : Nat) := Vector Byte n

end Sys2Proof
end

