-- ==== Sys2Proof/Config.lean ====
section
/-! DEFINITION. The parameters of the block (00_scope.md R6): those with a value, those the spec leaves OPEN
(constants with no body), and the one free value (70_reset_and_hazards.md R138). -/

namespace Sys2Proof

/-- `CRC_POLY_REFLECTED`. -/
def Config.crcPoly : Half := 0xA001

/-- `CRC_SEED`, for both variants (90_conflicts.md C1). -/
def Config.crcSeed : Half := 0x0000

/-- `SER_MAX`: the most bytes a serial has. -/
def Config.serMax : Nat := 9

/-- `FRAME_SIZE`: the bytes of a report. -/
def Config.frameSize : Nat := 64

/-- `PAYLOAD_MAX`: the most payload bytes of a basic frame (90_conflicts.md C3). -/
def Config.payloadMax : Nat := 61

/-- `EXT_PAYLOAD_MAX`: the most payload bytes of an extended frame (92_eei_decisions.md D18). -/
def Config.extPayloadMax : Nat := 56

/-- `SUCCESS`: the status byte of a successful response. -/
def Config.success : Byte := 0x01

/-- `BLOCK_ID`: what the ID register reads (10_state.md R30). -/
def Config.blockId : Byte := 0x01

/-- `KD_ZERO_PAD`: the zero bytes that end the key-derivation input (90_conflicts.md C2). -/
def Config.kdZeroPad : Nat := 57

/-- `CONFIG_TEMPLATE`, OPEN (92_eei_decisions.md D11): the reset value of TPL. Free value, log 4. -/
opaque Config.configTemplate : Buf 128

/-- `KD_SUFFIX`, OPEN (92_eei_decisions.md D12): the domain separator of the key derivation. Free value, log 5. -/
opaque Config.kdSuffix : Buf 7

/-- The byte that the n-th read overlapping reset returns, which 70_reset_and_hazards.md R138 calls unspecified.
Free value, log 3. -/
opaque Config.resetReadByte : Nat → Byte

end Sys2Proof
end

