-- ==== Sys2Proof/Machine/WireTable.lean ====
section
/-! DEFINITION. What the codec knows of a wire opcode: the payload lengths each request frame admits
(42_codec.md R105, R106) and the layout of its response (R107). -/

namespace Sys2Proof.Machine

/-- `admit_basic(op, n)` (42_codec.md R105). -/
def admitBasic (op n : Byte) : Bool :=
  match op.toNat with
  | 0x80 | 0x81 | 0x82 | 0x84 => n == 0
  | 0x83 => n == 2
  | 0x85 | 0x87 => n == 32
  | 0x86 => n == 36
  | _ => decide (n.toNat ≤ Config.payloadMax)

/-- `admit_ext(op, n)` (42_codec.md R106). -/
def admitExt (op n : Byte) : Bool :=
  match op.toNat with
  | 0x21 | 0x23 => n == 0
  | 0x22 => decide (n.toNat ≤ 20)
  | 0x24 => n == 2
  | 0x25 | 0x26 => n == 4
  | 0x80 | 0x81 | 0x82 | 0x83 | 0x84 | 0x85 | 0x86 | 0x87 => false
  | _ => decide (n.toNat ≤ Config.extPayloadMax)

/-- The response layouts (30_encoding.md R76). -/
inductive ResponseClass where
  | serial | status | query | raw | none
deriving DecidableEq, Repr

/-- `cls(op)` (42_codec.md R107). -/
def cls (op : Byte) : ResponseClass :=
  match op.toNat with
  | 0x80 => .serial
  | 0x81 | 0x83 | 0x85 | 0x86 | 0x87 => .status
  | 0x82 => .query
  | 0x84 => .raw
  | _ => .none

end Sys2Proof.Machine
end

