-- ==== Sys2Proof/Syntax.lean ====
section
/-! DEFINITION. The instructions: one constructor per row of spec/opcode_table.json, in the table's order. A
constructor carries every field of its row that the row's match leaves free. -/

namespace Sys2Proof

/-- The rows of the opcode table: twelve commands (30_encoding.md R69, R71), the two bus transactions (R68), and the
request frames of the fourteen wire opcodes (R74, R75, R77). -/
inductive Instr where
  /-- CMD 0x00xx (43_control.md R113). -/
  | nop (arg : Byte)
  /-- CMD 0x01xx (40_checksum.md R87). -/
  | crcInit (arg : Byte)
  /-- CMD 0x02bb, `bb` the byte fed (40_checksum.md R88). -/
  | crcFeed (arg : Byte)
  /-- CMD 0x03xx (40_checksum.md R89). -/
  | crcCfg (arg : Byte)
  /-- CMD 0x04xx (40_checksum.md R90). -/
  | crcOutA (arg : Byte)
  /-- CMD 0x05xx (40_checksum.md R91). -/
  | crcOutB (arg : Byte)
  /-- CMD 0x08xx (40_checksum.md R92). -/
  | fold (arg : Byte)
  /-- CMD 0x10xx (41_key_derivation.md R104). -/
  | derive (arg : Byte)
  /-- CMD 0x20oo, `oo` the wire opcode (42_codec.md R108). -/
  | encode (arg : Byte)
  /-- CMD 0x21oo, `oo` the wire opcode (42_codec.md R109). -/
  | encodeExt (arg : Byte)
  /-- CMD 0x28xx (42_codec.md R110). -/
  | decode (arg : Byte)
  /-- CMD 0x7Exx (43_control.md R114). -/
  | clrErr (arg : Byte)
  /-- BUS read of `addr`; `wdata` is ignored (20_memory.md R59, 30_encoding.md R68). -/
  | rd (addr : Addr) (wdata : Byte)
  /-- BUS write of `wdata` to `addr` (20_memory.md R60). -/
  | wr (addr : Addr) (wdata : Byte)
  /-- Basic request frame 00 80 (30_encoding.md R74, R77). -/
  | getSerialNum
  /-- Basic request frame 00 81. -/
  | isBuild
  /-- Basic request frame 00 82. -/
  | isConfigured
  /-- Basic request frame 00 83. -/
  | lock
  /-- Basic request frame 00 84. -/
  | genkey
  /-- Basic request frame 00 85. -/
  | loadTransKey
  /-- Basic request frame 00 86. -/
  | loadWriteKey
  /-- Basic request frame 00 87. -/
  | loadAttestKey
  /-- Extended request frame 00 FF FF FF FF 21 len_hi len_lo (30_encoding.md R75, R77). -/
  | customRng (len : Half)
  /-- Extended request frame of opcode 22. -/
  | customSeed (len : Half)
  /-- Extended request frame of opcode 23. -/
  | customWipe (len : Half)
  /-- Extended request frame of opcode 24. -/
  | customPulse (len : Half)
  /-- Extended request frame of opcode 25. -/
  | customIdleColor (len : Half)
  /-- Extended request frame of opcode 26. -/
  | customIdleColorp (len : Half)
deriving DecidableEq, Repr

end Sys2Proof
end

