-- ==== Sys2Proof/WellFormed.lean ====
section
/-! DEFINITION. Which instructions are well formed. The spec calls every bus word legal and gives every command word
and every frame length an effect, so an ill-formed instruction still runs; this predicate marks the forms the spec
tells the host to use. -/

namespace Sys2Proof

/-- The length field of an extended frame names an admitted payload length (30_encoding.md R75, R77). -/
def lenAdmitted (op : Byte) (len : Half) : Bool :=
  decide (len.toNat < 256) && Machine.admitExt op (len.setWidth 8)

/-- A read carries `wdata = 0` (30_encoding.md R68, "must be 0 when we = 0"); an extended frame carries a length its
opcode admits (R77). Every other instruction is well formed with any operand. -/
def WellFormed : Instr → Bool
  | .rd _ wdata => wdata == 0
  | .customRng len => lenAdmitted 0x21 len
  | .customSeed len => lenAdmitted 0x22 len
  | .customWipe len => lenAdmitted 0x23 len
  | .customPulse len => lenAdmitted 0x24 len
  | .customIdleColor len => lenAdmitted 0x25 len
  | .customIdleColorp len => lenAdmitted 0x26 len
  | .nop _ => true
  | .crcInit _ => true
  | .crcFeed _ => true
  | .crcCfg _ => true
  | .crcOutA _ => true
  | .crcOutB _ => true
  | .fold _ => true
  | .derive _ => true
  | .encode _ => true
  | .encodeExt _ => true
  | .decode _ => true
  | .clrErr _ => true
  | .wr _ _ => true
  | .getSerialNum => true
  | .isBuild => true
  | .isConfigured => true
  | .lock => true
  | .genkey => true
  | .loadTransKey => true
  | .loadWriteKey => true
  | .loadAttestKey => true

end Sys2Proof
end

