-- ==== Sys2Proof/Decode.lean ====
section
/-! DEFINITION. The decoders of the four formats of the opcode table, total and rejecting by name, and the encoder
(30_encoding.md). -/

namespace Sys2Proof

/-- An encoded instruction, by format: a CMD word, a BUS word, or the bytes of a request frame from byte 0 on. -/
inductive Encoded where
  | cmd (w : CmdWord)
  | bus (w : BusWord)
  | frame (bytes : List Byte)
deriving DecidableEq, Repr

/-- Why an encoding is no row of the opcode table. -/
inductive DecodeError where
  /-- A reserved command code (30_encoding.md R72). The block itself raises BADCMD for it. -/
  | reservedCommand (code : Byte)
  /-- Bytes that begin neither a basic frame of 0x80 to 0x87 nor an extended frame of 0x21 to 0x26. -/
  | unlistedFrame (bytes : List Byte)
deriving DecidableEq, Repr

/-- The command of a CMD word's two fields (30_encoding.md R67, R69, R71). -/
def decodeCmd (code arg : Byte) : Except DecodeError Instr :=
  match code.toNat with
  | 0x00 => .ok (.nop arg)
  | 0x01 => .ok (.crcInit arg)
  | 0x02 => .ok (.crcFeed arg)
  | 0x03 => .ok (.crcCfg arg)
  | 0x04 => .ok (.crcOutA arg)
  | 0x05 => .ok (.crcOutB arg)
  | 0x08 => .ok (.fold arg)
  | 0x10 => .ok (.derive arg)
  | 0x20 => .ok (.encode arg)
  | 0x21 => .ok (.encodeExt arg)
  | 0x28 => .ok (.decode arg)
  | 0x7E => .ok (.clrErr arg)
  | _ => .error (.reservedCommand code)

/-- The transaction of a BUS word; every word is legal (30_encoding.md R68). -/
def decodeBus (w : BusWord) : Instr :=
  if w.getLsbD 18 then .wr (w.extractLsb' 8 10) (w.extractLsb' 0 8)
  else .rd (w.extractLsb' 8 10) (w.extractLsb' 0 8)

/-- The core wire opcodes, sent in the basic frame (30_encoding.md R77). -/
def basicInstr (op : Byte) : Option Instr :=
  match op.toNat with
  | 0x80 => some .getSerialNum
  | 0x81 => some .isBuild
  | 0x82 => some .isConfigured
  | 0x83 => some .lock
  | 0x84 => some .genkey
  | 0x85 => some .loadTransKey
  | 0x86 => some .loadWriteKey
  | 0x87 => some .loadAttestKey
  | _ => none

/-- The auxiliary wire opcodes, sent in the extended frame (30_encoding.md R77). -/
def extInstr (op : Byte) (len : Half) : Option Instr :=
  match op.toNat with
  | 0x21 => some (.customRng len)
  | 0x22 => some (.customSeed len)
  | 0x23 => some (.customWipe len)
  | 0x24 => some (.customPulse len)
  | 0x25 => some (.customIdleColor len)
  | 0x26 => some (.customIdleColorp len)
  | _ => none

/-- The opcode and the length of an extended frame's header, with the bytes after it (30_encoding.md R75). -/
def extHeader : List Byte → Option (Byte × Half × List Byte)
  | b0 :: b1 :: b2 :: b3 :: b4 :: op :: lenHi :: lenLo :: rest =>
    if b0 = 0x00 ∧ b1 = 0xFF ∧ b2 = 0xFF ∧ b3 = 0xFF ∧ b4 = 0xFF then some (op, lenHi ++ lenLo, rest) else none
  | _ => none

/-- The opcode of a basic frame's header, with the bytes after it (30_encoding.md R74). -/
def basicHeader : List Byte → Option (Byte × List Byte)
  | b0 :: op :: rest => if b0 = 0x00 then some (op, rest) else none
  | _ => none

/-- The request frame that some bytes begin, with the payload bytes after its header. The two header forms never name
an instruction together, since 0xFF is no core opcode. -/
def decodeFrame (bytes : List Byte) : Except DecodeError (Instr × List Byte) :=
  match (basicHeader bytes).bind fun h => (basicInstr h.1).map fun i => (i, h.2) with
  | some found => .ok found
  | none =>
    match (extHeader bytes).bind fun h => (extInstr h.1 h.2.1).map fun i => (i, h.2.2) with
    | some found => .ok found
    | none => .error (.unlistedFrame bytes)

/-- The instruction of an encoding. A frame's payload bytes are no part of the table's row. -/
def decode : Encoded → Except DecodeError Instr
  | .cmd w => decodeCmd (w.extractLsb' 8 8) (w.extractLsb' 0 8)
  | .bus w => .ok (decodeBus w)
  | .frame bytes => (decodeFrame bytes).map Prod.fst

/-- A BUS word from its fields (30_encoding.md R68). -/
def busWord (we : Bool) (addr : Addr) (wdata : Byte) : BusWord :=
  BitVec.ofBool we ++ (addr ++ wdata)

/-- A CMD word from its fields (30_encoding.md R69). -/
def cmdWord (code arg : Byte) : CmdWord := code ++ arg

/-- The header of a basic frame (30_encoding.md R74). -/
def basicHead (op : Byte) : List Byte := [0x00, op]

/-- The header of an extended frame (30_encoding.md R75). -/
def extHead (op : Byte) (len : Half) : List Byte :=
  [0x00, 0xFF, 0xFF, 0xFF, 0xFF, op, len.extractLsb' 8 8, len.extractLsb' 0 8]

/-- The encoding of an instruction. -/
def encode : Instr → Encoded
  | .nop arg => .cmd (cmdWord 0x00 arg)
  | .crcInit arg => .cmd (cmdWord 0x01 arg)
  | .crcFeed arg => .cmd (cmdWord 0x02 arg)
  | .crcCfg arg => .cmd (cmdWord 0x03 arg)
  | .crcOutA arg => .cmd (cmdWord 0x04 arg)
  | .crcOutB arg => .cmd (cmdWord 0x05 arg)
  | .fold arg => .cmd (cmdWord 0x08 arg)
  | .derive arg => .cmd (cmdWord 0x10 arg)
  | .encode arg => .cmd (cmdWord 0x20 arg)
  | .encodeExt arg => .cmd (cmdWord 0x21 arg)
  | .decode arg => .cmd (cmdWord 0x28 arg)
  | .clrErr arg => .cmd (cmdWord 0x7E arg)
  | .rd addr wdata => .bus (busWord false addr wdata)
  | .wr addr wdata => .bus (busWord true addr wdata)
  | .getSerialNum => .frame (basicHead 0x80)
  | .isBuild => .frame (basicHead 0x81)
  | .isConfigured => .frame (basicHead 0x82)
  | .lock => .frame (basicHead 0x83)
  | .genkey => .frame (basicHead 0x84)
  | .loadTransKey => .frame (basicHead 0x85)
  | .loadWriteKey => .frame (basicHead 0x86)
  | .loadAttestKey => .frame (basicHead 0x87)
  | .customRng len => .frame (extHead 0x21 len)
  | .customSeed len => .frame (extHead 0x22 len)
  | .customWipe len => .frame (extHead 0x23 len)
  | .customPulse len => .frame (extHead 0x24 len)
  | .customIdleColor len => .frame (extHead 0x25 len)
  | .customIdleColorp len => .frame (extHead 0x26 len)

/-- The `n` bytes of a number, the most significant first: how a frame's bytes are read as one number
(30_encoding.md, the note on `FRAME_BASIC` and `FRAME_EXT` rows). -/
def bytesBE : Nat → Nat → List Byte
  | 0, _ => []
  | n + 1, w => BitVec.ofNat 8 (w >>> (8 * n)) :: bytesBE n w

/-- A 16-bit table word: a basic frame's two bytes where they are one of 00 80 to 00 87, else a CMD word. The rows NOP
and 00 80 to 00 87 overlap in the table's numbering, and the fully fixed row wins (DESIGN CHOICE, log 9). -/
def decodeTableWord16 (w : Nat) : Option Instr :=
  match decodeFrame (bytesBE 2 w) with
  | .ok found => some found.1
  | .error _ => (decode (.cmd (BitVec.ofNat 16 w))).toOption

/-- The instruction of a table word of `nbits` bits, `w` numbered as the opcode table numbers it: two bytes for the CMD
and FRAME_BASIC rows, three for the 19-bit BUS rows, eight for the FRAME_EXT rows. -/
def decodeTableWord (nbits w : Nat) : Option Instr :=
  if nbits ≤ 16 then (if w < 2 ^ 16 then decodeTableWord16 w else none)
  else if nbits ≤ 32 then (if w < 2 ^ 19 then (decode (.bus (BitVec.ofNat 19 w))).toOption else none)
  else if nbits ≤ 64 then (if w < 2 ^ 64 then (decode (.frame (bytesBE 8 w))).toOption else none)
  else none

end Sys2Proof
end

