-- ==== Sys2Proof/Machine/Buffer.lean ====
section
/-! DEFINITION. The named operations over byte buffers (00_scope.md R8): reading a byte, writing a byte, filling from a
byte sequence. -/

namespace Sys2Proof.Machine

/-- `B[i]`, and 0x00 past the end of the buffer. -/
def bufGet {n : Nat} (b : Buf n) (i : Nat) : Byte := b[i]?.getD 0x00

/-- `B[i] <- v`, with no effect past the end of the buffer. -/
def bufSet {n : Nat} (b : Buf n) (i : Nat) (v : Byte) : Buf n := b.setIfInBounds i v

/-- `zeros(n)`. -/
def bufZero (n : Nat) : Buf n := Vector.replicate n 0x00

/-- The buffer whose bytes are `f 0`, `f 1`, and so on. -/
def bufOf (n : Nat) (f : Nat → Byte) : Buf n := Vector.ofFn fun i => f i.val

/-- The buffer that begins with the bytes of `l` and holds 0x00 after them. -/
def bufOfList (n : Nat) (l : List Byte) : Buf n := bufOf n fun i => l.getD i 0x00

/-- `B[0..k-1]`. -/
def bufTake {n : Nat} (b : Buf n) (k : Nat) : List Byte := b.toList.take k

end Sys2Proof.Machine
end

