-- ==== Sys2Proof/Machine/State.lean ====
section
/-! DEFINITION. The state of the block: the items of 10_state.md, one field each (R12), the three fields that are the
model's own, the outcomes a step can have, and the state after reset (R48). -/

namespace Sys2Proof.Machine

/-- The block has no fault: no address faults and nothing traps (20_memory.md R51, 60_exceptions.md R118). The type has
no constructor, so no meaning can raise one (log 12). -/
inductive Fault where
deriving DecidableEq, Repr

/-- The block refuses no transaction (60_exceptions.md R118). The one constructor is the host interface's. -/
inductive Refusal where
  /-- An instruction without a meaning. No arm of `exec` raises it; if one did, the stop would be safe. -/
  | notModelled (mnemonic : String)
deriving DecidableEq, Repr

/-- The error codes a command can raise (60_exceptions.md R119). -/
inductive CmdError where
  /-- Code 1: a short or empty response, raised by DECODE. -/
  | timeout
  /-- Code 2: echo, length or serial length disagrees, raised by DECODE. -/
  | mismatch
  /-- Code 3: the device reports failure, raised by DECODE. -/
  | device
  /-- Code 4: payload length not admitted, raised by ENCODE and ENCODE_EXT. -/
  | len
  /-- Code 5: SERLEN above 9, raised by FOLD. -/
  | range
  /-- Code 6: CFGV or TXV is 0, raised by CRC_CFG and DECODE. -/
  | notReady
  /-- Code 7: a reserved command code. -/
  | badCmd
  /-- Code 8: a response the block does not decode, raised by DECODE. -/
  | unsupported
deriving DecidableEq, Repr

/-- What the outside does to the block next: a bus transaction (20_memory.md R53), or an assertion of the reset input,
perhaps with a transaction it overlaps (20_memory.md R54, 70_reset_and_hazards.md R138). -/
inductive BusEvent where
  | transaction (w : BusWord)
  | reset (overlapped : Option BusWord)
deriving DecidableEq, Repr

/-- The state. Every field down to `ser` is an item of R12; ID, ERRF and the reserved STATUS bits are hardwired or
computed and have none (R17, R23, R30). -/
structure State where
  /-- LASTCMD, the last byte written to CMD (R15). -/
  lastCmd : Byte
  /-- ARG, the operand of the next command (R16). -/
  arg : Byte
  /-- STATUS bit 0 (R18). -/
  cfgv : Bool
  /-- STATUS bit 1 (R19). -/
  maskv : Bool
  /-- STATUS bit 2 (R20). -/
  txv : Bool
  /-- STATUS bit 3 (R21). -/
  txext : Bool
  /-- STATUS bit 4 (R22). -/
  configured : Bool
  /-- ERR, the code of the last command (R24). -/
  err : Byte
  /-- ERRACC, a sticky bit per code (R25). -/
  errAcc : Byte
  /-- CRC, read as CRC_HI and CRC_LO (R26). -/
  crc : Half
  /-- OUT0, the checksum byte sent first (R27). -/
  out0 : Byte
  /-- OUT1 (R27). -/
  out1 : Byte
  /-- PLEN, the payload length of the encoders (R28). -/
  plen : Byte
  /-- TXLEN, the bytes of the frame in TX (R29). -/
  txlen : Byte
  /-- RXLEN, the bytes of the response in RX (R31). -/
  rxlen : Byte
  /-- RX_ECHO (R32). -/
  rxEcho : Byte
  /-- RX_STAT (R33). -/
  rxStat : Byte
  /-- RX_POFF (R34). -/
  rxPoff : Byte
  /-- RX_PLEN (R35). -/
  rxPlen : Byte
  /-- SERLEN, the bytes of the serial in SER (R36). -/
  serlen : Byte
  /-- TX, the encoded request frame (R37). -/
  tx : Buf 64
  /-- PL, the payload staging buffer (R38). -/
  pl : Buf 61
  /-- RX, the response buffer (R39). -/
  rx : Buf 64
  /-- TPL, the configuration template (R40). -/
  tpl : Buf 128
  /-- CFG, the finalized ConfigBuffer (R41). -/
  cfg : Buf 128
  /-- KEY, the input key of DERIVE (R42). -/
  key : Buf 32
  /-- MASK, the derived mask (R43). -/
  mask : Buf 36
  /-- SER, the device serial (R44). -/
  ser : Buf 9
  /-- The model's own: the read data the bus port last showed (20_memory.md R53, log 2). -/
  rdata : Byte
  /-- The model's own: what the outside does next, in issue order (20_memory.md R52, log 1). -/
  pending : List BusEvent
  /-- The model's own: how many reads reset has overlapped, the argument of the next free byte (log 3). -/
  openReads : Nat
deriving DecidableEq, Repr

/-- What the next step does. -/
inductive Fetched where
  /-- No transaction is issued. -/
  | idle
  /-- Reset has been asserted, leaving this state. -/
  | reset (s : State)
  /-- A transaction, performed from this state. -/
  | run (i : Instr) (s : State)
deriving DecidableEq, Repr

/-- The state after reset (10_state.md R48, 70_reset_and_hazards.md R137), with nothing issued yet. -/
def State.reset : State where
  lastCmd := 0x00
  arg := 0x00
  cfgv := false
  maskv := false
  txv := false
  txext := false
  configured := false
  err := 0x00
  errAcc := 0x00
  crc := 0x0000
  out0 := 0x00
  out1 := 0x00
  plen := 0x00
  txlen := 0x00
  rxlen := 0x00
  rxEcho := 0x00
  rxStat := 0x00
  rxPoff := 0x00
  rxPlen := 0x00
  serlen := 0x00
  tx := bufZero 64
  pl := bufZero 61
  rx := bufZero 64
  tpl := Config.configTemplate
  cfg := bufZero 128
  key := bufZero 32
  mask := bufZero 36
  ser := bufZero 9
  rdata := 0x00
  pending := []
  openReads := 0

end Sys2Proof.Machine
end

