-- ==== Sys2Proof/Machine/Flags.lean ====
section
/-! DEFINITION. The STATUS view and the error record: every flag the block computes (10_state.md R17 to R25). The block
has no arithmetic flags (R45). -/

namespace Sys2Proof.Machine

/-- The value of an error code in ERR (60_exceptions.md R119). -/
def CmdError.code : CmdError → Byte
  | .timeout => 1
  | .mismatch => 2
  | .device => 3
  | .len => 4
  | .range => 5
  | .notReady => 6
  | .badCmd => 7
  | .unsupported => 8

/-- The ERRACC bit of an error code, `1 << (c - 1)` (10_state.md R25). -/
def CmdError.accBit (e : CmdError) : Byte := 1 <<< (e.code.toNat - 1)

/-- ERRF: ERR is not 0 (10_state.md R23). -/
def errf (s : State) : Bool := s.err != 0

/-- What a read of STATUS returns, bit 7 down to bit 0 (10_state.md R17, 20_memory.md R59). -/
def statusByte (s : State) : Byte :=
  BitVec.ofBool (errf s) ++ (0#2 ++ (BitVec.ofBool s.configured ++ (BitVec.ofBool s.txext
    ++ (BitVec.ofBool s.txv ++ (BitVec.ofBool s.maskv ++ BitVec.ofBool s.cfgv)))))

/-- An input of the fold has been written (10_state.md R18). -/
def State.foldInputWritten (s : State) : State := { s with cfgv := false }

/-- The key has been written (10_state.md R19). -/
def State.keyWritten (s : State) : State := { s with maskv := false }

/-- Write-1-to-clear of ERRACC, `ERRACC & ~v` (10_state.md R25). -/
def clearOnes (acc v : Byte) : Byte := acc &&& ~~~v

end Sys2Proof.Machine
end

