-- ==== Sys2Proof/Machine/Operands.lean ====
section
/-! DEFINITION. The operand forms of the commands (30_encoding.md R70): ARG, and the named registers and buffers that
are implicit operands. -/

namespace Sys2Proof.Machine

/-- ARG holds the operand of the command word (30_encoding.md R69, R78). -/
def State.withArg (s : State) (a : Byte) : State := { s with arg := a }

/-- PLEN holds a payload length (30_encoding.md R79, PAYLOAD). -/
def State.withPlen (s : State) (n : Byte) : State := { s with plen := n }

/-- The payload of the encoders, `PL[0..PLEN-1]` (42_codec.md R108, R109). -/
def payload (s : State) : List Byte := bufTake s.pl s.plen.toNat

/-- The opcode of the request in TX (42_codec.md R110). -/
def sentOpcode (s : State) : Byte := bufGet s.tx 1

/-- The serial that FOLD uses, `SER[0..SERLEN-1]` (40_checksum.md R92). -/
def serial (s : State) : List Byte := bufTake s.ser s.serlen.toNat

end Sys2Proof.Machine
end

