-- ==== Sys2Proof/Machine/Ops.lean ====
section
/-! DEFINITION. The shared operations: the address map with the bus read and the storing bus write (20_memory.md R50,
R59, R60), and how a command ends, in success or in an error (60_exceptions.md R120, R121). -/

namespace Sys2Proof.Machine

/-- What stands at a bus address (20_memory.md R50). -/
inductive Item where
  | cmd | arg | status | err | errAcc | id | crcHi | crcLo | out0 | out1 | plen | txlen | rxlen
  | rxEcho | rxStat | rxPoff | rxPlen | serlen
  | tx (i : Nat) | pl (i : Nat) | rx (i : Nat) | tpl (i : Nat) | cfg (i : Nat) | key (i : Nat) | mask (i : Nat)
  | ser (i : Nat)
  | reserved
deriving DecidableEq, Repr

/-- The register at an address below 0x012. -/
def registerAt (n : Nat) : Item :=
  match n with
  | 0x000 => .cmd
  | 0x001 => .arg
  | 0x002 => .status
  | 0x003 => .err
  | 0x004 => .errAcc
  | 0x005 => .id
  | 0x006 => .crcHi
  | 0x007 => .crcLo
  | 0x008 => .out0
  | 0x009 => .out1
  | 0x00A => .plen
  | 0x00B => .txlen
  | 0x00C => .rxlen
  | 0x00D => .rxEcho
  | 0x00E => .rxStat
  | 0x00F => .rxPoff
  | 0x010 => .rxPlen
  | 0x011 => .serlen
  | _ => .reserved

/-- The address map (20_memory.md R50). -/
def itemAt (a : Addr) : Item :=
  let n := a.toNat
  if n < 0x040 then registerAt n
  else if n < 0x080 then .tx (n - 0x040)
  else if n < 0x0BD then .pl (n - 0x080)
  else if n < 0x0C0 then .reserved
  else if n < 0x100 then .rx (n - 0x0C0)
  else if n < 0x180 then .tpl (n - 0x100)
  else if n < 0x200 then .cfg (n - 0x180)
  else if n < 0x220 then .key (n - 0x200)
  else if n < 0x244 then .mask (n - 0x220)
  else if n < 0x24D then .ser (n - 0x244)
  else .reserved

/-- The byte an item reads as. -/
def readItem (it : Item) (s : State) : Byte :=
  match it with
  | .cmd => s.lastCmd
  | .arg => s.arg
  | .status => statusByte s
  | .err => s.err
  | .errAcc => s.errAcc
  | .id => Config.blockId
  | .crcHi => s.crc.extractLsb' 8 8
  | .crcLo => s.crc.extractLsb' 0 8
  | .out0 => s.out0
  | .out1 => s.out1
  | .plen => s.plen
  | .txlen => s.txlen
  | .rxlen => s.rxlen
  | .rxEcho => s.rxEcho
  | .rxStat => s.rxStat
  | .rxPoff => s.rxPoff
  | .rxPlen => s.rxPlen
  | .serlen => s.serlen
  | .tx i => bufGet s.tx i
  | .pl i => bufGet s.pl i
  | .rx i => bufGet s.rx i
  | .tpl i => bufGet s.tpl i
  | .cfg i => bufGet s.cfg i
  | .key i => bufGet s.key i
  | .mask i => bufGet s.mask i
  | .ser i => bufGet s.ser i
  | .reserved => 0x00

/-- `MemRead(a, 1)` (20_memory.md R59). -/
def memRead (a : Addr) (s : State) : Byte := readItem (itemAt a) s

/-- What a host write of `v` to an item stores, for every item but CMD (20_memory.md R51, R60). -/
def writeItem (it : Item) (v : Byte) (s : State) : State :=
  match it with
  | .arg => { s with arg := v }
  | .errAcc => { s with errAcc := clearOnes s.errAcc v }
  | .plen => { s with plen := v }
  | .rxlen => { s with rxlen := v }
  | .serlen => { s with serlen := v }.foldInputWritten
  | .pl i => { s with pl := bufSet s.pl i v }
  | .rx i => { s with rx := bufSet s.rx i v }
  | .tpl i => { s with tpl := bufSet s.tpl i v }.foldInputWritten
  | .key i => { s with key := bufSet s.key i v }.keyWritten
  | .ser i => { s with ser := bufSet s.ser i v }.foldInputWritten
  | .cmd | .status | .err | .id | .crcHi | .crcLo | .out0 | .out1 | .txlen | .rxEcho | .rxStat | .rxPoff | .rxPlen
  | .tx _ | .cfg _ | .mask _ | .reserved => s

/-- A write to CMD records its byte in LASTCMD before the command runs (20_memory.md R60). -/
def State.recorded (s : State) (code : Byte) : State := { s with lastCmd := code }

/-- `raise CmdError(c)`: ERR holds the code and ERRACC its bit; the state is otherwise the one before the command
(60_exceptions.md R120). -/
def State.raised (s : State) (e : CmdError) : State :=
  { s with err := e.code, errAcc := s.errAcc ||| e.accBit }

/-- A command that ends without a raise: ERR is 0 (60_exceptions.md R121). -/
def State.succeeded (s : State) : State := { s with err := 0x00 }

/-- One command, within the write of its code to CMD: all of its effects, or those of its error alone
(60_exceptions.md R120, R121). -/
def command (code : Byte) (body : State → Except CmdError State) (s : State) : Host.Outcome State Fault Refusal :=
  match body (s.recorded code) with
  | .ok t => .next t.succeeded
  | .error e => .next ((s.recorded code).raised e)

end Sys2Proof.Machine
end

