-- ==== Sys2Proof/Machine/Checksum.lean ====
section
/-! DEFINITION. The checksum engine and the ConfigBuffer fold (40_checksum.md): their functions, then one meaning per
command. -/

namespace Sys2Proof.Machine

/-- One round of the feed (40_checksum.md R80). -/
def crcRound (c : Half) : Half :=
  if c.getLsbD 0 then (c >>> 1) ^^^ Config.crcPoly else c >>> 1

/-- `k` rounds. -/
def crcRounds : Nat → Half → Half
  | 0, c => c
  | k + 1, c => crcRounds k (crcRound c)

/-- `crc_feed(c, b)` (40_checksum.md R80). -/
def crcFeed (c : Half) (b : Byte) : Half := crcRounds 8 (c ^^^ b.setWidth 16)

/-- `compute(buf)` (40_checksum.md R83). -/
def compute (buf : List Byte) : Half := buf.foldl crcFeed Config.crcSeed

/-- `bitrev16(x)` (40_checksum.md R82). -/
def bitrev16 (x : Half) : Half := x.reverse

/-- The two bytes of a checksum, high byte first: `outA(c)` (40_checksum.md R84). -/
def outA (c : Half) : Byte × Byte := (c.extractLsb' 8 8, c.extractLsb' 0 8)

/-- `outB(c)` (40_checksum.md R85). -/
def outB (c : Half) : Byte × Byte := outA (bitrev16 c)

/-- `fold(template, serial)` (40_checksum.md R86). -/
def foldSerial (template : Buf 128) (ser : List Byte) : Buf 128 :=
  bufOf 128 fun i => ser.getD i (bufGet template i)

/-- The checksum bytes in wire order (10_state.md R27). -/
def State.withOut (s : State) (out : Byte × Byte) : State := { s with out0 := out.1, out1 := out.2 }

/-- CRC_INIT (40_checksum.md R87). -/
def crcInitBody (s : State) : Except CmdError State := .ok { s with crc := Config.crcSeed }

/-- CRC_FEED (40_checksum.md R88). -/
def crcFeedBody (s : State) : Except CmdError State := .ok { s with crc := crcFeed s.crc s.arg }

/-- CRC_CFG (40_checksum.md R89). -/
def crcCfgBody (s : State) : Except CmdError State :=
  if s.cfgv then .ok { s with crc := compute s.cfg.toList } else .error .notReady

/-- CRC_OUT_A (40_checksum.md R90). -/
def crcOutABody (s : State) : Except CmdError State := .ok (s.withOut (outA s.crc))

/-- CRC_OUT_B (40_checksum.md R91). -/
def crcOutBBody (s : State) : Except CmdError State := .ok (s.withOut (outB s.crc))

/-- FOLD (40_checksum.md R92). -/
def foldBody (s : State) : Except CmdError State :=
  if s.serlen.toNat > Config.serMax then .error .range
  else .ok { s with cfg := foldSerial s.tpl (serial s), cfgv := true }

/-- CRC_INIT; ARG is ignored (30_encoding.md R73). -/
def execCrcInit (_arg : Byte) (s : State) : Host.Outcome State Fault Refusal := command 0x01 crcInitBody s

/-- CRC_FEED of the byte `arg`. -/
def execCrcFeed (arg : Byte) (s : State) : Host.Outcome State Fault Refusal := command 0x02 crcFeedBody (s.withArg arg)

/-- CRC_CFG; ARG is ignored. -/
def execCrcCfg (_arg : Byte) (s : State) : Host.Outcome State Fault Refusal := command 0x03 crcCfgBody s

/-- CRC_OUT_A; ARG is ignored. -/
def execCrcOutA (_arg : Byte) (s : State) : Host.Outcome State Fault Refusal := command 0x04 crcOutABody s

/-- CRC_OUT_B; ARG is ignored. -/
def execCrcOutB (_arg : Byte) (s : State) : Host.Outcome State Fault Refusal := command 0x05 crcOutBBody s

/-- FOLD; ARG is ignored. -/
def execFold (_arg : Byte) (s : State) : Host.Outcome State Fault Refusal := command 0x08 foldBody s

end Sys2Proof.Machine
end

