-- ==== Sys2Proof/Machine/Codec.lean ====
section
/-! DEFINITION. The packet codec: the two request encoders and the response decoder (42_codec.md). -/

namespace Sys2Proof.Machine

/-- The bytes of a basic request frame (30_encoding.md R74). -/
def basicFrame (op : Byte) (p : List Byte) : List Byte := basicHead op ++ p

/-- The bytes of an extended request frame whose payload has `n` bytes (30_encoding.md R75). -/
def extFrame (op n : Byte) (p : List Byte) : List Byte := extHead op (n.setWidth 16) ++ p

/-- TX holds a frame and zeros after it (42_codec.md R108, R109). -/
def State.framed (s : State) (frame : List Byte) (len : Byte) (ext : Bool) : State :=
  { s with tx := bufOfList 64 frame, txlen := len, txv := true, txext := ext }

/-- ENCODE (42_codec.md R108). -/
def encodeBody (s : State) : Except CmdError State :=
  if admitBasic s.arg s.plen then .ok (s.framed (basicFrame s.arg (payload s)) (s.plen + 2) false) else .error .len

/-- ENCODE_EXT (42_codec.md R109). -/
def encodeExtBody (s : State) : Except CmdError State :=
  if admitExt s.arg s.plen then .ok (s.framed (extFrame s.arg s.plen (payload s)) (s.plen + 8) true) else .error .len

/-- The part of a response every successful DECODE exposes, and its payload slice (42_codec.md R110, 10_state.md R32 to
R35). -/
def State.received (s : State) (poff plen : Byte) : State :=
  { s with rxEcho := bufGet s.rx 0, rxStat := bufGet s.rx 1, rxPoff := poff, rxPlen := plen }

/-- A serial of `n` bytes from RX, zeros after it (42_codec.md R110, SERIAL). -/
def State.serialReceived (s : State) (n : Byte) : State :=
  { s with ser := bufOf 9 (fun i => if i < n.toNat then bufGet s.rx (2 + i) else 0x00), serlen := n }.foldInputWritten

/-- The SERIAL branch (42_codec.md R110). -/
def decodeSerial (s : State) : Except CmdError State :=
  if bufGet s.rx 0 ≠ sentOpcode s then .error .mismatch
  else if (bufGet s.rx 1).toNat > Config.serMax then .error .mismatch
  else .ok ((s.serialReceived (bufGet s.rx 1)).received 2 (bufGet s.rx 1))

/-- The STATUS branch (R110). -/
def decodeStatus (s : State) : Except CmdError State :=
  if bufGet s.rx 0 ≠ sentOpcode s then .error .mismatch
  else if bufGet s.rx 1 ≠ Config.success then .error .device
  else .ok (s.received 2 62)

/-- The QUERY branch (R110, 10_state.md R22). -/
def decodeQuery (s : State) : Except CmdError State :=
  if bufGet s.rx 0 ≠ sentOpcode s then .error .mismatch
  else .ok ({ s with configured := bufGet s.rx 1 == Config.success }.received 2 62)

/-- The RAW branch (R110). -/
def decodeRaw (s : State) : Except CmdError State := .ok (s.received 0 64)

/-- DECODE, its checks in the order of 42_codec.md R110. -/
def decodeBody (s : State) : Except CmdError State :=
  if s.txv = false then .error .notReady
  else if s.txext then .error .unsupported
  else if cls (sentOpcode s) = .none then .error .unsupported
  else if s.rxlen.toNat < Config.frameSize then .error .timeout
  else if s.rxlen.toNat > Config.frameSize then .error .mismatch
  else
    match cls (sentOpcode s) with
    | .serial => decodeSerial s
    | .status => decodeStatus s
    | .query => decodeQuery s
    | .raw => decodeRaw s
    | .none => .error .unsupported

/-- ENCODE of the wire opcode `arg`. -/
def execEncode (arg : Byte) (s : State) : Host.Outcome State Fault Refusal := command 0x20 encodeBody (s.withArg arg)

/-- ENCODE_EXT of the wire opcode `arg`. -/
def execEncodeExt (arg : Byte) (s : State) : Host.Outcome State Fault Refusal :=
  command 0x21 encodeExtBody (s.withArg arg)

/-- DECODE; ARG is ignored (30_encoding.md R73). -/
def execDecode (_arg : Byte) (s : State) : Host.Outcome State Fault Refusal := command 0x28 decodeBody s

end Sys2Proof.Machine
end

