-- ==== Sys2Proof/Machine/Control.lean ====
section
/-! DEFINITION. The control commands and the reserved codes (43_control.md). -/

namespace Sys2Proof.Machine

/-- CLR_ERR (43_control.md R114). -/
def clrErrBody (s : State) : Except CmdError State := .ok { s with errAcc := 0x00 }

/-- NOP; ARG is ignored (43_control.md R113). -/
def execNop (_arg : Byte) (s : State) : Host.Outcome State Fault Refusal := command 0x00 .ok s

/-- CLR_ERR; ARG is ignored (43_control.md R114). -/
def execClrErr (_arg : Byte) (s : State) : Host.Outcome State Fault Refusal := command 0x7E clrErrBody s

/-- A reserved command code raises BADCMD (30_encoding.md R72, 43_control.md R115). -/
def reservedCommand (code : Byte) (s : State) : Host.Outcome State Fault Refusal :=
  command code (fun _ => .error .badCmd) s

end Sys2Proof.Machine
end

