-- ==== Sys2Proof/Machine/Sha256.lean ====
section
/-! DEFINITION. SHA-256 (41_key_derivation.md R99 to R103, which the spec marks as general knowledge, log 14). -/

namespace Sys2Proof.Machine

/-- `Ch(x, y, z)` (41_key_derivation.md R99). -/
def shaCh (x y z : Word) : Word := (x &&& y) ^^^ (~~~x &&& z)

/-- `Maj(x, y, z)` (R99). -/
def shaMaj (x y z : Word) : Word := (x &&& y) ^^^ (x &&& z) ^^^ (y &&& z)

/-- `S0`, the upper-case sigma 0 (R99). -/
def shaBigS0 (x : Word) : Word := x.rotateRight 2 ^^^ x.rotateRight 13 ^^^ x.rotateRight 22

/-- `S1` (R99). -/
def shaBigS1 (x : Word) : Word := x.rotateRight 6 ^^^ x.rotateRight 11 ^^^ x.rotateRight 25

/-- `s0`, the lower-case sigma 0 (R99). -/
def shaSmallS0 (x : Word) : Word := x.rotateRight 7 ^^^ x.rotateRight 18 ^^^ (x >>> 3)

/-- `s1` (R99). -/
def shaSmallS1 (x : Word) : Word := x.rotateRight 17 ^^^ x.rotateRight 19 ^^^ (x >>> 10)

/-- The 8-byte big-endian encoding of a number (R100). -/
def be64 (n : Nat) : List Byte :=
  [7, 6, 5, 4, 3, 2, 1, 0].map fun k => BitVec.ofNat 8 (n >>> (8 * k))

/-- `k`, the zero bytes of the padding: the least with `L + 1 + k + 8` a multiple of 64 (R100). -/
def shaPadZeros (len : Nat) : Nat := (119 - len % 64) % 64

/-- The padded message (R100). -/
def shaPad (m : List Byte) : List Byte :=
  m ++ [0x80] ++ List.replicate (shaPadZeros m.length) 0x00 ++ be64 (8 * m.length)

/-- The round constants `K[0..63]` (R101). -/
def shaK : List Word :=
  [0x428A2F98, 0x71374491, 0xB5C0FBCF, 0xE9B5DBA5, 0x3956C25B, 0x59F111F1, 0x923F82A4, 0xAB1C5ED5,
   0xD807AA98, 0x12835B01, 0x243185BE, 0x550C7DC3, 0x72BE5D74, 0x80DEB1FE, 0x9BDC06A7, 0xC19BF174,
   0xE49B69C1, 0xEFBE4786, 0x0FC19DC6, 0x240CA1CC, 0x2DE92C6F, 0x4A7484AA, 0x5CB0A9DC, 0x76F988DA,
   0x983E5152, 0xA831C66D, 0xB00327C8, 0xBF597FC7, 0xC6E00BF3, 0xD5A79147, 0x06CA6351, 0x14292967,
   0x27B70A85, 0x2E1B2138, 0x4D2C6DFC, 0x53380D13, 0x650A7354, 0x766A0ABB, 0x81C2C92E, 0x92722C85,
   0xA2BFE8A1, 0xA81A664B, 0xC24B8B70, 0xC76C51A3, 0xD192E819, 0xD6990624, 0xF40E3585, 0x106AA070,
   0x19A4C116, 0x1E376C08, 0x2748774C, 0x34B0BCB5, 0x391C0CB3, 0x4ED8AA4A, 0x5B9CCA4F, 0x682E6FF3,
   0x748F82EE, 0x78A5636F, 0x84C87814, 0x8CC70208, 0x90BEFFFA, 0xA4506CEB, 0xBEF9A3F7, 0xC67178F2]

/-- The hash value `H[0..7]`, and the working variables `a` to `h` (R102). -/
structure Hash where
  a : Word
  b : Word
  c : Word
  d : Word
  e : Word
  f : Word
  g : Word
  h : Word
deriving DecidableEq, Repr

/-- The initial hash value `H0` (R101). -/
def shaH0 : Hash :=
  ⟨0x6A09E667, 0xBB67AE85, 0x3C6EF372, 0xA54FF53A, 0x510E527F, 0x9B05688C, 0x1F83D9AB, 0x5BE0CD19⟩

/-- `be32`, reading: the big-endian words of a byte sequence (R102). -/
def shaWords : List Byte → List Word
  | b0 :: b1 :: b2 :: b3 :: rest => (b0 ++ (b1 ++ (b2 ++ b3))) :: shaWords rest
  | _ => []

/-- The schedule extended by `k` words. `w` holds the words so far, the latest first, so that `W[t-n]` is the
`n - 1`-th of them (R102). -/
def shaExtend : Nat → List Word → List Word
  | 0, w => w
  | k + 1, w =>
    shaExtend k ((shaSmallS1 (w.getD 1 0) + w.getD 6 0 + shaSmallS0 (w.getD 14 0) + w.getD 15 0) :: w)

/-- `W[0..63]` of a 64-byte block (R102). -/
def shaSchedule (block : List Byte) : List Word := (shaExtend 48 (shaWords block).reverse).reverse

/-- One round, with `K[t]` and `W[t]` (R102). -/
def shaRound (v : Hash) (kw : Word × Word) : Hash :=
  let t1 := v.h + shaBigS1 v.e + shaCh v.e v.f v.g + kw.1 + kw.2
  let t2 := shaBigS0 v.a + shaMaj v.a v.b v.c
  ⟨t1 + t2, v.a, v.b, v.c, v.d + t1, v.e, v.f, v.g⟩

/-- The word-by-word sum of two hash values (R102). -/
def shaAdd (x y : Hash) : Hash :=
  ⟨x.a + y.a, x.b + y.b, x.c + y.c, x.d + y.d, x.e + y.e, x.f + y.f, x.g + y.g, x.h + y.h⟩

/-- The compression of one block (R102). -/
def shaCompress (hash : Hash) (block : List Byte) : Hash :=
  shaAdd hash ((shaK.zip (shaSchedule block)).foldl shaRound hash)

/-- `k` blocks of 64 bytes, in order. -/
def shaBlocks : Nat → List Byte → List (List Byte)
  | 0, _ => []
  | k + 1, m => m.take 64 :: shaBlocks k (m.drop 64)

/-- `be32`, writing (R103). -/
def be32 (w : Word) : List Byte :=
  [w.extractLsb' 24 8, w.extractLsb' 16 8, w.extractLsb' 8 8, w.extractLsb' 0 8]

/-- The digest bytes of a hash value (R103). -/
def shaDigest (x : Hash) : List Byte :=
  be32 x.a ++ be32 x.b ++ be32 x.c ++ be32 x.d ++ be32 x.e ++ be32 x.f ++ be32 x.g ++ be32 x.h

/-- `SHA256(m)` (R103). -/
def sha256 (m : List Byte) : List Byte :=
  shaDigest ((shaBlocks ((shaPad m).length / 64) (shaPad m)).foldl shaCompress shaH0)

end Sys2Proof.Machine
end

