-- ==== Sys2Proof/Machine/KeyDerivation.lean ====
section
/-! DEFINITION. The key derivation engine (41_key_derivation.md). -/

namespace Sys2Proof.Machine

/-- `m`, the 96 bytes hashed: the key, the suffix and 57 zeros (41_key_derivation.md R95). -/
def kdInput (suffix : Buf 7) (key : Buf 32) : List Byte :=
  key.toList ++ suffix.toList ++ List.replicate Config.kdZeroPad 0x00

/-- `h1 ‖ h2[0:4]` of the input `m` (R95). -/
def maskBytes (m : List Byte) : List Byte := sha256 m ++ (sha256 (sha256 m)).take 4

/-- `derive(key)` under a suffix (R95). -/
def deriveMask (suffix : Buf 7) (key : Buf 32) : Buf 36 := bufOfList 36 (maskBytes (kdInput suffix key))

/-- DERIVE (41_key_derivation.md R104). -/
def deriveBody (s : State) : Except CmdError State :=
  .ok { s with mask := deriveMask Config.kdSuffix s.key, maskv := true }

/-- DERIVE; ARG is ignored (30_encoding.md R73). -/
def execDerive (_arg : Byte) (s : State) : Host.Outcome State Fault Refusal := command 0x10 deriveBody s

end Sys2Proof.Machine
end

