-- ==== Sys2Proof/Machine/Bus.lean ====
section
/-! DEFINITION. The bus transactions (20_memory.md R59, R60) and the command dispatch of a write to CMD (30_encoding.md
R67). -/

namespace Sys2Proof.Machine

/-- `Execute(code, arg)` (30_encoding.md R67). -/
def execute (code arg : Byte) (s : State) : Host.Outcome State Fault Refusal :=
  match code.toNat with
  | 0x00 => execNop arg s
  | 0x01 => execCrcInit arg s
  | 0x02 => execCrcFeed arg s
  | 0x03 => execCrcCfg arg s
  | 0x04 => execCrcOutA arg s
  | 0x05 => execCrcOutB arg s
  | 0x08 => execFold arg s
  | 0x10 => execDerive arg s
  | 0x20 => execEncode arg s
  | 0x21 => execEncodeExt arg s
  | 0x28 => execDecode arg s
  | 0x7E => execClrErr arg s
  | _ => reservedCommand code s

/-- A bus read: the port shows the byte, and no item changes (20_memory.md R53, R59). `wdata` is ignored (30_encoding.md
R68). -/
def execRd (addr : Addr) (_wdata : Byte) (s : State) : Host.Outcome State Fault Refusal :=
  .next { s with rdata := memRead addr s }

/-- A bus write: to CMD it runs the command with ARG as its operand, elsewhere it stores (20_memory.md R60). -/
def execWr (addr : Addr) (wdata : Byte) (s : State) : Host.Outcome State Fault Refusal :=
  match itemAt addr with
  | .cmd => execute wdata s.arg s
  | it => .next (writeItem it wdata s)

end Sys2Proof.Machine
end

