-- ==== Sys2Proof/Machine/Frames.lean ====
section
/-! DEFINITION. The wire opcodes as instructions: the block's part in each is to build its request frame (42_codec.md
R108, R109), as the host statements `ENC op` and `ENCX op` do (30_encoding.md R78; log 7 and log 8). -/

namespace Sys2Proof.Machine

/-- `ENC op`: ARG <- op, then ENCODE, over the payload staged in PL and PLEN. -/
def basicRequest (op : Byte) (s : State) : Host.Outcome State Fault Refusal := command 0x20 encodeBody (s.withArg op)

/-- `ENCX op` of a frame whose length field is `len`: PLEN <- len, ARG <- op, then ENCODE_EXT over the payload staged in
PL. A length that PLEN cannot hold is admitted for no opcode: LEN, and PLEN stays (log 8). -/
def extRequest (op : Byte) (len : Half) (s : State) : Host.Outcome State Fault Refusal :=
  if len.toNat < 256 then command 0x21 encodeExtBody ((s.withPlen (len.setWidth 8)).withArg op)
  else command 0x21 (fun _ => .error .len) (s.withArg op)

/-- GET_SERIAL_NUM. -/
def execGetSerialNum (s : State) : Host.Outcome State Fault Refusal := basicRequest 0x80 s

/-- IS_BUILD. -/
def execIsBuild (s : State) : Host.Outcome State Fault Refusal := basicRequest 0x81 s

/-- IS_CONFIGURED. -/
def execIsConfigured (s : State) : Host.Outcome State Fault Refusal := basicRequest 0x82 s

/-- LOCK. -/
def execLock (s : State) : Host.Outcome State Fault Refusal := basicRequest 0x83 s

/-- GENKEY. -/
def execGenkey (s : State) : Host.Outcome State Fault Refusal := basicRequest 0x84 s

/-- LOAD_TRANS_KEY. -/
def execLoadTransKey (s : State) : Host.Outcome State Fault Refusal := basicRequest 0x85 s

/-- LOAD_WRITE_KEY. -/
def execLoadWriteKey (s : State) : Host.Outcome State Fault Refusal := basicRequest 0x86 s

/-- LOAD_ATTEST_KEY. -/
def execLoadAttestKey (s : State) : Host.Outcome State Fault Refusal := basicRequest 0x87 s

/-- CUSTOM_RNG. -/
def execCustomRng (len : Half) (s : State) : Host.Outcome State Fault Refusal := extRequest 0x21 len s

/-- CUSTOM_SEED. -/
def execCustomSeed (len : Half) (s : State) : Host.Outcome State Fault Refusal := extRequest 0x22 len s

/-- CUSTOM_WIPE. -/
def execCustomWipe (len : Half) (s : State) : Host.Outcome State Fault Refusal := extRequest 0x23 len s

/-- CUSTOM_PULSE. -/
def execCustomPulse (len : Half) (s : State) : Host.Outcome State Fault Refusal := extRequest 0x24 len s

/-- CUSTOM_IDLE_COLOR. -/
def execCustomIdleColor (len : Half) (s : State) : Host.Outcome State Fault Refusal := extRequest 0x25 len s

/-- CUSTOM_IDLE_COLORP. -/
def execCustomIdleColorp (len : Half) (s : State) : Host.Outcome State Fault Refusal := extRequest 0x26 len s

end Sys2Proof.Machine
end

