-- ==== Sys2Proof/Machine/Dispatch.lean ====
section
/-! DEFINITION. The dispatch: one arm per constructor of Instr, each a direct call of its meaning. -/

namespace Sys2Proof.Machine

/-- The meaning of an instruction. -/
def exec (i : Instr) (s : State) : Host.Outcome State Fault Refusal :=
  match i with
  | .nop arg => Sys2Proof.Machine.execNop arg s
  | .crcInit arg => Sys2Proof.Machine.execCrcInit arg s
  | .crcFeed arg => Sys2Proof.Machine.execCrcFeed arg s
  | .crcCfg arg => Sys2Proof.Machine.execCrcCfg arg s
  | .crcOutA arg => Sys2Proof.Machine.execCrcOutA arg s
  | .crcOutB arg => Sys2Proof.Machine.execCrcOutB arg s
  | .fold arg => Sys2Proof.Machine.execFold arg s
  | .derive arg => Sys2Proof.Machine.execDerive arg s
  | .encode arg => Sys2Proof.Machine.execEncode arg s
  | .encodeExt arg => Sys2Proof.Machine.execEncodeExt arg s
  | .decode arg => Sys2Proof.Machine.execDecode arg s
  | .clrErr arg => Sys2Proof.Machine.execClrErr arg s
  | .rd addr wdata => Sys2Proof.Machine.execRd addr wdata s
  | .wr addr wdata => Sys2Proof.Machine.execWr addr wdata s
  | .getSerialNum => Sys2Proof.Machine.execGetSerialNum s
  | .isBuild => Sys2Proof.Machine.execIsBuild s
  | .isConfigured => Sys2Proof.Machine.execIsConfigured s
  | .lock => Sys2Proof.Machine.execLock s
  | .genkey => Sys2Proof.Machine.execGenkey s
  | .loadTransKey => Sys2Proof.Machine.execLoadTransKey s
  | .loadWriteKey => Sys2Proof.Machine.execLoadWriteKey s
  | .loadAttestKey => Sys2Proof.Machine.execLoadAttestKey s
  | .customRng len => Sys2Proof.Machine.execCustomRng len s
  | .customSeed len => Sys2Proof.Machine.execCustomSeed len s
  | .customWipe len => Sys2Proof.Machine.execCustomWipe len s
  | .customPulse len => Sys2Proof.Machine.execCustomPulse len s
  | .customIdleColor len => Sys2Proof.Machine.execCustomIdleColor len s
  | .customIdleColorp len => Sys2Proof.Machine.execCustomIdleColorp len s

end Sys2Proof.Machine
end

