-- ==== Sys2Proof/Machine/HostPort.lean ====
section
/-! DEFINITION. What reaches the block from outside: taking the next bus transaction, the reset input, and how an
encoded instruction is placed as the next transaction. -/

namespace Sys2Proof.Machine

/-- Assertion of reset: every item takes its reset value (70_reset_and_hazards.md R137). The transaction it overlaps has
no effect, and if that is a read, the port shows an unspecified byte (R138). The fields that are the model's own are not
items of the block and stay otherwise (log 13). -/
def State.resetAsserted (s : State) (overlapped : Option BusWord) : State :=
  let r := { State.reset with rdata := s.rdata, pending := s.pending, openReads := s.openReads }
  match overlapped with
  | none => r
  | some w =>
    if w.getLsbD 18 then r
    else { r with rdata := Config.resetReadByte s.openReads, openReads := s.openReads + 1 }

/-- The transactions left after the next one. -/
def State.withPending (s : State) (rest : List BusEvent) : State := { s with pending := rest }

/-- Take the next transaction in issue order (20_memory.md R52); with none, the block is idle and keeps its state
(60_exceptions.md R132). -/
def fetch (s : State) : Fetched :=
  match s.pending with
  | [] => .idle
  | .transaction w :: rest => .run (decodeBus w) (s.withPending rest)
  | .reset overlapped :: rest => .reset ((s.withPending rest).resetAsserted overlapped)

/-- The host issues a transaction before every other. -/
def State.issue (s : State) (w : BusWord) : State := s.withPending (.transaction w :: s.pending)

/-- The host writes a code to CMD with ARG holding `arg`: the value pair of a CMD word (30_encoding.md R66, R69). -/
def State.issueCommand (s : State) (code arg : Byte) : State := (s.withArg arg).issue (busWord true 0x000 code)

/-- PLEN holds the length of an extended frame; a length that does not fit stands as 0xFF, which no opcode admits
either (log 10). -/
def State.stageLen (s : State) (len : Half) : State :=
  s.withPlen (if len.toNat < 256 then len.setWidth 8 else 0xFF)

/-- Place the transaction that performs an instruction as the next one, with the operands it takes from ARG and PLEN in
place (log 10). -/
def State.issueInstr (s : State) : Instr → State
  | .nop arg => s.issueCommand 0x00 arg
  | .crcInit arg => s.issueCommand 0x01 arg
  | .crcFeed arg => s.issueCommand 0x02 arg
  | .crcCfg arg => s.issueCommand 0x03 arg
  | .crcOutA arg => s.issueCommand 0x04 arg
  | .crcOutB arg => s.issueCommand 0x05 arg
  | .fold arg => s.issueCommand 0x08 arg
  | .derive arg => s.issueCommand 0x10 arg
  | .encode arg => s.issueCommand 0x20 arg
  | .encodeExt arg => s.issueCommand 0x21 arg
  | .decode arg => s.issueCommand 0x28 arg
  | .clrErr arg => s.issueCommand 0x7E arg
  | .rd addr wdata => s.issue (busWord false addr wdata)
  | .wr addr wdata => s.issue (busWord true addr wdata)
  | .getSerialNum => s.issueCommand 0x20 0x80
  | .isBuild => s.issueCommand 0x20 0x81
  | .isConfigured => s.issueCommand 0x20 0x82
  | .lock => s.issueCommand 0x20 0x83
  | .genkey => s.issueCommand 0x20 0x84
  | .loadTransKey => s.issueCommand 0x20 0x85
  | .loadWriteKey => s.issueCommand 0x20 0x86
  | .loadAttestKey => s.issueCommand 0x20 0x87
  | .customRng len => (s.stageLen len).issueCommand 0x21 0x21
  | .customSeed len => (s.stageLen len).issueCommand 0x21 0x22
  | .customWipe len => (s.stageLen len).issueCommand 0x21 0x23
  | .customPulse len => (s.stageLen len).issueCommand 0x21 0x24
  | .customIdleColor len => (s.stageLen len).issueCommand 0x21 0x25
  | .customIdleColorp len => (s.stageLen len).issueCommand 0x21 0x26

/-- Place a table word as the next transaction. A word of the CMD format whose code is reserved is placed too, since the
block performs it (43_control.md R115); any other word that names no instruction leaves the state. -/
def State.issueTableWord (s : State) (nbits w : Nat) : State :=
  match decodeTableWord nbits w with
  | some i => s.issueInstr i
  | none =>
    if nbits ≤ 16 ∧ w < 2 ^ 16 then s.issueCommand (BitVec.ofNat 8 (w >>> 8)) (BitVec.ofNat 8 w) else s

end Sys2Proof.Machine
end

