-- ==== Sys2Proof/Machine/Step.lean ====
section
/-! DEFINITION. One step of the machine: one bus transaction, one assertion of reset, or an idle step. -/

namespace Sys2Proof.Machine

/-- The block performs the next transaction completely before the one after it begins (20_memory.md R52). -/
def step (s : State) : Host.Outcome State Fault Refusal :=
  match fetch s with
  | .idle => .next s
  | .reset t => .next t
  | .run i t => exec i t

/-- The state whose next step runs the instruction of a table word (log 10). -/
def State.withFetchWord (s : State) (nbits w : Nat) : State := s.issueTableWord nbits w

end Sys2Proof.Machine
end

