-- ==== Sys2Proof/Machine/Memory.lean ====
section
/-! DEFINITION. The address space as data: the list of its cells in one canonical form (20_memory.md R50; log 11). It is a
view of the state, computed through the bus read, not a second copy of it. -/

namespace Sys2Proof.Machine

/-- Cells by address. -/
abbrev Memory := List Host.Cell

/-- What an address that is not listed reads as: the byte of a reserved address (20_memory.md R51). -/
def Memory.unlisted : BitVec 8 := 0x00

/-- The canonical form: addresses strictly rising and below 1024, no cell equal to what an unlisted address reads as. -/
def Memory.wf (m : Memory) : Bool :=
  decide (m.Pairwise fun x y => x.1 < y.1) && m.all fun c => decide (c.1 < 1024) && c.2 != Memory.unlisted

/-- The byte at an address. -/
def Memory.read (m : Memory) (a : Nat) : BitVec 8 := (m.lookup a).getD Memory.unlisted

/-- The cell of an address, if it is listed. -/
def cellAt (s : State) (n : Nat) : Option Host.Cell :=
  if memRead (BitVec.ofNat 10 n) s = Memory.unlisted then none else some (n, memRead (BitVec.ofNat 10 n) s)

/-- The whole address space of a state. -/
def memoryOf (s : State) : Memory := (List.range 1024).filterMap (cellAt s)

end Sys2Proof.Machine
end

