-- ==== Sys2Proof/Safety.lean ====
section
/-! DEFINITION. The terms in which claims about the block are made: the invariants of its state, the addresses each
instruction may change, and the run of a list of instructions. -/

namespace Sys2Proof.Machine

/-- The registers hold legal values (10_state.md R24, R29, R34, R35). -/
def RegistersLegal (s : State) : Prop :=
  s.err.toNat ≤ 8 ∧ s.txlen.toNat ≤ 64 ∧ (s.rxPoff = 0 ∨ s.rxPoff = 2) ∧ s.rxPlen.toNat ≤ 64

/-- CFGV = 1 means that CFG is the fold of the current template and serial (10_state.md R17, bit 0). -/
def CfgFresh (s : State) : Prop :=
  s.cfgv = true → s.serlen.toNat ≤ 9 ∧ s.cfg = foldSerial s.tpl (serial s)

/-- MASKV = 1 means that MASK is derived from the current KEY (10_state.md R17, bit 1). -/
def MaskFresh (s : State) : Prop :=
  s.maskv = true → s.mask = deriveMask Config.kdSuffix s.key

/-- TXV = 0 means that nothing has been encoded (10_state.md R17, bits 2 and 3). -/
def NothingEncoded (s : State) : Prop :=
  s.txv = false → s.txext = false ∧ s.txlen = 0 ∧ s.tx = bufZero 64

/-- TXV = 1 and TXEXT = 0 mean that TX is one admitted basic frame of TXLEN bytes and then zeros (R17, R37). -/
def BasicFrameHeld (s : State) : Prop :=
  s.txv = true → s.txext = false →
    ∃ (op n : Byte) (p : List Byte), p.length = n.toNat ∧ n.toNat ≤ 61 ∧ admitBasic op n = true
      ∧ s.tx = bufOfList 64 (basicFrame op p) ∧ s.txlen.toNat = n.toNat + 2

/-- TXV = 1 and TXEXT = 1 mean that TX is one admitted extended frame of TXLEN bytes and then zeros (R17, R37). -/
def ExtFrameHeld (s : State) : Prop :=
  s.txv = true → s.txext = true →
    ∃ (op n : Byte) (p : List Byte), p.length = n.toNat ∧ n.toNat ≤ 56 ∧ admitExt op n = true
      ∧ s.tx = bufOfList 64 (extFrame op n p) ∧ s.txlen.toNat = n.toNat + 8

/-- The invariant of the block: its registers are legal and its status flags mean what 10_state.md R17 says. -/
def Inv (s : State) : Prop :=
  RegistersLegal s ∧ CfgFresh s ∧ MaskFresh s ∧ NothingEncoded s ∧ BasicFrameHeld s ∧ ExtFrameHeld s

/-- The addresses that hold the results of a command, beside CMD, STATUS and ERR (30_encoding.md R71). ERRACC (0x004) is
among them for a command that can fail. -/
def resultAddress (code : Byte) (n : Nat) : Bool :=
  match code.toNat with
  | 0x00 => false
  | 0x01 | 0x02 => n == 0x006 || n == 0x007
  | 0x03 => n == 0x004 || n == 0x006 || n == 0x007
  | 0x04 | 0x05 => n == 0x008 || n == 0x009
  | 0x08 => n == 0x004 || decide (0x180 ≤ n ∧ n < 0x200)
  | 0x10 => decide (0x220 ≤ n ∧ n < 0x244)
  | 0x20 | 0x21 => n == 0x004 || n == 0x00B || decide (0x040 ≤ n ∧ n < 0x080)
  | 0x28 => n == 0x004 || decide (0x00D ≤ n ∧ n ≤ 0x011) || decide (0x244 ≤ n ∧ n < 0x24D)
  | _ => n == 0x004

/-- The addresses a command may change: CMD, STATUS, ERR, and its results. -/
def commandFootprint (code : Byte) (n : Nat) : Bool :=
  n == 0x000 || n == 0x002 || n == 0x003 || resultAddress code n

/-- The addresses whose write clears a STATUS bit: SERLEN, TPL, KEY and SER (20_memory.md R58). -/
def clearsStatus (n : Nat) : Bool :=
  n == 0x011 || decide (0x100 ≤ n ∧ n < 0x180) || decide (0x200 ≤ n ∧ n < 0x220) || decide (0x244 ≤ n ∧ n < 0x24D)

/-- The addresses an instruction may change. A write to CMD changes what its command changes; any other write changes at
most its own address and, where it clears a STATUS bit, STATUS. -/
def footprint (i : Instr) (n : Nat) : Bool :=
  match i with
  | .nop _ => commandFootprint 0x00 n
  | .crcInit _ => commandFootprint 0x01 n
  | .crcFeed _ => n == 0x001 || commandFootprint 0x02 n
  | .crcCfg _ => commandFootprint 0x03 n
  | .crcOutA _ => commandFootprint 0x04 n
  | .crcOutB _ => commandFootprint 0x05 n
  | .fold _ => commandFootprint 0x08 n
  | .derive _ => commandFootprint 0x10 n
  | .encode _ => n == 0x001 || commandFootprint 0x20 n
  | .encodeExt _ => n == 0x001 || commandFootprint 0x21 n
  | .decode _ => commandFootprint 0x28 n
  | .clrErr _ => commandFootprint 0x7E n
  | .rd _ _ => false
  | .wr addr wdata => if addr = 0x000 then commandFootprint wdata n else n == addr.toNat || (n == 0x002 && clearsStatus addr.toNat)
  | .getSerialNum => n == 0x001 || commandFootprint 0x20 n
  | .isBuild => n == 0x001 || commandFootprint 0x20 n
  | .isConfigured => n == 0x001 || commandFootprint 0x20 n
  | .lock => n == 0x001 || commandFootprint 0x20 n
  | .genkey => n == 0x001 || commandFootprint 0x20 n
  | .loadTransKey => n == 0x001 || commandFootprint 0x20 n
  | .loadWriteKey => n == 0x001 || commandFootprint 0x20 n
  | .loadAttestKey => n == 0x001 || commandFootprint 0x20 n
  | .customRng _ => n == 0x001 || n == 0x00A || commandFootprint 0x21 n
  | .customSeed _ => n == 0x001 || n == 0x00A || commandFootprint 0x21 n
  | .customWipe _ => n == 0x001 || n == 0x00A || commandFootprint 0x21 n
  | .customPulse _ => n == 0x001 || n == 0x00A || commandFootprint 0x21 n
  | .customIdleColor _ => n == 0x001 || n == 0x00A || commandFootprint 0x21 n
  | .customIdleColorp _ => n == 0x001 || n == 0x00A || commandFootprint 0x21 n

/-- The code of the command an instruction runs: its own, that of the byte written to CMD, or ENCODE or ENCODE_EXT for a
request frame. A bus read, and a bus write elsewhere, runs none. -/
def commandCode : Instr → Option Byte
  | .nop _ => some 0x00
  | .crcInit _ => some 0x01
  | .crcFeed _ => some 0x02
  | .crcCfg _ => some 0x03
  | .crcOutA _ => some 0x04
  | .crcOutB _ => some 0x05
  | .fold _ => some 0x08
  | .derive _ => some 0x10
  | .encode _ => some 0x20
  | .encodeExt _ => some 0x21
  | .decode _ => some 0x28
  | .clrErr _ => some 0x7E
  | .rd _ _ => none
  | .wr addr wdata => if addr = 0x000 then some wdata else none
  | .getSerialNum => some 0x20
  | .isBuild => some 0x20
  | .isConfigured => some 0x20
  | .lock => some 0x20
  | .genkey => some 0x20
  | .loadTransKey => some 0x20
  | .loadWriteKey => some 0x20
  | .loadAttestKey => some 0x20
  | .customRng _ => some 0x21
  | .customSeed _ => some 0x21
  | .customWipe _ => some 0x21
  | .customPulse _ => some 0x21
  | .customIdleColor _ => some 0x21
  | .customIdleColorp _ => some 0x21

/-- The instructions of a list one after another, stopping at the first that gives no next state. -/
def execAll : List Instr → State → Host.Outcome State Fault Refusal
  | [], s => .next s
  | i :: rest, s =>
    match exec i s with
    | .next t => execAll rest t
    | .fault r => .fault r
    | .refused r => .refused r

end Sys2Proof.Machine
end

