-- ==== Sys2Proof/Certificates/Slice0/Obligations.lean ====
section
/-! DEFINITION. The statements about the block, one per obligation. Each docstring names the rule of spec/ it formalises,
or says that it rests on a choice of the model. -/

open Sys2Proof Sys2Proof.Machine

/-! ## Control commands and dispatch -/

/-- 43_control.md R113: NOP, with any ARG, sets ERR to 0 and changes nothing else but LASTCMD. -/
def Obligations.NopClearsErrAlone : Prop :=
  ∀ (a : Byte) (s : State),
    decode (.cmd ((0x00 : Byte) ++ a)) = .ok (.nop a) ∧
      exec (.nop a) s = .next { s with lastCmd := 0x00, err := 0x00 }

/-- 43_control.md R114: CLR_ERR clears ERRACC. -/
def Obligations.ClrErrClearsTheErrorRecord : Prop :=
  ∀ (a : Byte) (s : State),
    decode (.cmd ((0x7E : Byte) ++ a)) = .ok (.clrErr a) ∧
      exec (.clrErr a) s = .next { s with lastCmd := 0x7E, errAcc := 0x00, err := 0x00 }

/-- 43_control.md R115: every reserved code raises BADCMD; LASTCMD keeps the code and no other state changes. -/
def Obligations.ReservedCodesRaiseBadCmd : Prop :=
  ∀ (v : Byte) (s : State),
    v ∉ ([0x00, 0x01, 0x02, 0x03, 0x04, 0x05, 0x08, 0x10, 0x20, 0x21, 0x28, 0x7E] : List Byte) →
      exec (.wr 0x000 v) s = .next { s with lastCmd := v, err := 7, errAcc := s.errAcc ||| 0x40 }

/-- 30_encoding.md R67 and R69: a write of a code to CMD runs the command whose word is that code beside ARG. -/
def Obligations.CmdWriteRunsTheCommandWord : Prop :=
  ∀ (v : Byte) (s : State) (i : Instr), decode (.cmd (v ++ s.arg)) = .ok i → exec (.wr 0x000 v) s = exec i s

/-! ## The checksum engine and the fold -/

/-- 40_checksum.md R87. -/
def Obligations.CrcInitLoadsTheSeed : Prop :=
  ∀ (a : Byte) (s : State),
    decode (.cmd ((0x01 : Byte) ++ a)) = .ok (.crcInit a) ∧
      exec (.crcInit a) s = .next { s with lastCmd := 0x01, crc := 0x0000, err := 0x00 }

/-- 40_checksum.md R88: CRC_FEED feeds the byte in ARG. That ARG holds the command word's operand is the model's reading of
a command word (log 6). -/
def Obligations.CrcFeedFeedsArg : Prop :=
  ∀ (b : Byte) (s : State),
    decode (.cmd ((0x02 : Byte) ++ b)) = .ok (.crcFeed b) ∧
      exec (.crcFeed b) s = .next { s with arg := b, lastCmd := 0x02, crc := crcFeed s.crc b, err := 0x00 }

/-- 40_checksum.md R89: CRC_CFG checksums CFG when CFGV is 1 and fails with NOTREADY, CRC unchanged, when it is 0. -/
def Obligations.CrcCfgChecksumsAValidFold : Prop :=
  ∀ (a : Byte) (s : State),
    decode (.cmd ((0x03 : Byte) ++ a)) = .ok (.crcCfg a) ∧
      (s.cfgv = true →
        exec (.crcCfg a) s = .next { s with lastCmd := 0x03, crc := compute s.cfg.toList, err := 0x00 }) ∧
      (s.cfgv = false →
        exec (.crcCfg a) s = .next { s with lastCmd := 0x03, err := 6, errAcc := s.errAcc ||| 0x20 })

/-- 40_checksum.md R90, with R84: OUT0 is CRC[15:8], OUT1 is CRC[7:0]. -/
def Obligations.CrcOutAGivesTheBytesHighFirst : Prop :=
  ∀ (a : Byte) (s : State),
    decode (.cmd ((0x04 : Byte) ++ a)) = .ok (.crcOutA a) ∧
      ∃ o0 o1 : Byte,
        exec (.crcOutA a) s = .next { s with lastCmd := 0x04, out0 := o0, out1 := o1, err := 0x00 } ∧ o0 ++ o1 = s.crc

/-- 40_checksum.md R91, with R82 and R85: the bit-reversed CRC, high byte first, bit by bit. -/
def Obligations.CrcOutBGivesTheReversedBytes : Prop :=
  ∀ (a : Byte) (s : State),
    decode (.cmd ((0x05 : Byte) ++ a)) = .ok (.crcOutB a) ∧
      ∃ o0 o1 : Byte,
        exec (.crcOutB a) s = .next { s with lastCmd := 0x05, out0 := o0, out1 := o1, err := 0x00 } ∧
          ∀ i < 8, o0.getLsbD i = s.crc.getLsbD (7 - i) ∧ o1.getLsbD i = s.crc.getLsbD (15 - i)

/-- 40_checksum.md R92, with R86: FOLD overwrites the first SERLEN bytes of the template with the serial, or fails with
RANGE. -/
def Obligations.FoldOverwritesTheSerialBytes : Prop :=
  ∀ (a : Byte) (s : State),
    decode (.cmd ((0x08 : Byte) ++ a)) = .ok (.fold a) ∧
      (s.serlen.toNat ≤ 9 →
        ∃ c : Buf 128,
          exec (.fold a) s = .next { s with lastCmd := 0x08, cfg := c, cfgv := true, err := 0x00 } ∧
            ∀ i < 128, bufGet c i = if i < s.serlen.toNat then bufGet s.ser i else bufGet s.tpl i) ∧
      (9 < s.serlen.toNat →
        exec (.fold a) s = .next { s with lastCmd := 0x08, err := 5, errAcc := s.errAcc ||| 0x10 })

/-- 40_checksum.md R80: the feed is eight rounds on the register with the byte XORed into its low bits. -/
def Obligations.CrcFeedIsEightRounds : Prop :=
  ∀ (c : Half) (b : Byte),
    crcFeed c b = (fun x : Half => if x &&& 1 = 1 then (x >>> 1) ^^^ 0xA001 else x >>> 1)^[8] (c ^^^ b.setWidth 16)

/-- 40_checksum.md R81: the laws (a) to (e) of the feed. -/
def Obligations.CrcFeedObeysItsLaws : Prop :=
  (∀ c : Half, (c >>> 1).toNat ≤ 0x7FFF) ∧
    (∀ (c : Half) (b : Byte), crcFeed c b = crcFeed (c ^^^ b.setWidth 16) 0) ∧
    (∀ (c1 c2 : Half) (b1 b2 : Byte), crcFeed (c1 ^^^ c2) (b1 ^^^ b2) = crcFeed c1 b1 ^^^ crcFeed c2 b2) ∧
    (∀ k : Nat, compute (List.replicate k 0) = 0) ∧
    (∀ b : Byte, Function.Bijective fun c => crcFeed c b) ∧
    (∀ (c : Half) (b : Byte), crcFeed c b = 0 ↔ c ^^^ b.setWidth 16 = 0)

/-- 40_checksum.md R82: bit i of the reversal is bit 15 - i, and reversing twice changes nothing. -/
def Obligations.BitReversalMirrorsAllSixteenBits : Prop :=
  ∀ x : Half, (∀ i < 16, (bitrev16 x).getLsbD i = x.getLsbD (15 - i)) ∧ bitrev16 (bitrev16 x) = x

/-- 40_checksum.md R83: the checksum starts from 0 and feeds the bytes in order. -/
def Obligations.ComputeFeedsEveryByteFromTheSeed : Prop :=
  compute [] = 0 ∧ ∀ (l : List Byte) (b : Byte), compute (l ++ [b]) = crcFeed (compute l) b

/-- 40_checksum.md R88 and R89: CRC_INIT and a CRC_FEED of every byte of CFG leave in CRC what CRC_CFG computes, whatever
CRC and ERR held before. That the feeds leave their byte in ARG is the model's reading of a command word (log 6). -/
def Obligations.FeedingCfgRefinesCrcCfg : Prop :=
  ∀ (a : Byte) (s : State), s.cfgv = true →
    ∃ t u, execAll (.crcInit a :: s.cfg.toList.map .crcFeed) s = .next t ∧ exec (.crcCfg a) s = .next u ∧
      u = { t with lastCmd := 0x03, arg := s.arg }

/-! ## The key derivation -/

/-- 41_key_derivation.md R104, with R95: MASK is h1 and the first four bytes of h2, of the 96-byte input. -/
def Obligations.DeriveWritesTheChainedHash : Prop :=
  ∀ (a : Byte) (s : State),
    decode (.cmd ((0x10 : Byte) ++ a)) = .ok (.derive a) ∧
      ∃ m : Buf 36,
        exec (.derive a) s = .next { s with lastCmd := 0x10, mask := m, maskv := true, err := 0x00 } ∧
          (∀ i < 32, bufGet m i =
            (sha256 (s.key.toList ++ Config.kdSuffix.toList ++ List.replicate 57 0)).getD i 0) ∧
          (∀ i < 4, bufGet m (32 + i) =
            (sha256 (sha256 (s.key.toList ++ Config.kdSuffix.toList ++ List.replicate 57 0))).getD i 0)

/-- 41_key_derivation.md R100: the padded message is the message, 0x80, the fewest zeros that fill a block, and the bit
length in 8 bytes, big-endian. -/
def Obligations.ShaPaddingFillsWholeBlocks : Prop :=
  ∀ m : List Byte, ∃ k : Nat,
    (m.length + 1 + k + 8) % 64 = 0 ∧ (∀ j < k, (m.length + 1 + j + 8) % 64 ≠ 0) ∧
      shaPad m = m ++ [0x80] ++ List.replicate k 0x00 ++
        (List.range 8).map fun i => BitVec.ofNat 8 (8 * m.length / 2 ^ (8 * (7 - i)))

/-- 41_key_derivation.md R102: the message schedule of a block, word by word. -/
def Obligations.ShaScheduleFollowsItsRecurrence : Prop :=
  ∀ block : List Byte, block.length = 64 →
    (shaSchedule block).length = 64 ∧
      (∀ t < 16, (shaSchedule block).getD t 0 = block.getD (4 * t) 0 ++ (block.getD (4 * t + 1) 0 ++
        (block.getD (4 * t + 2) 0 ++ block.getD (4 * t + 3) 0))) ∧
      (∀ t, 16 ≤ t → t < 64 → (shaSchedule block).getD t 0 =
        shaSmallS1 ((shaSchedule block).getD (t - 2) 0) + (shaSchedule block).getD (t - 7) 0 +
          shaSmallS0 ((shaSchedule block).getD (t - 15) 0) + (shaSchedule block).getD (t - 16) 0)

/-- 95_test_vectors.md V-SHA-2: the digest of "abc", one block through the whole compression of R102 and R103. -/
def Obligations.Sha256OfAbcIsThePublishedDigest : Prop :=
  sha256 [0x61, 0x62, 0x63] =
    [0xBA, 0x78, 0x16, 0xBF, 0x8F, 0x01, 0xCF, 0xEA, 0x41, 0x41, 0x40, 0xDE, 0x5D, 0xAE, 0x22, 0x23,
     0xB0, 0x03, 0x61, 0xA3, 0x96, 0x17, 0x7A, 0x9C, 0xB4, 0x10, 0xFF, 0x61, 0xF2, 0x00, 0x15, 0xAD]

/-! ## The codec -/

/-- 42_codec.md R108, with R74: ENCODE of an admitted payload builds the basic frame and zeros after it; any other payload
length fails with LEN. That ARG holds the command word's operand is the model's reading of a command word (log 6). -/
def Obligations.EncodeBuildsTheBasicFrame : Prop :=
  ∀ (op : Byte) (s : State),
    decode (.cmd ((0x20 : Byte) ++ op)) = .ok (.encode op) ∧
      (admitBasic op s.plen = true →
        ∃ f : Buf 64,
          exec (.encode op) s = .next { s with
            arg := op, lastCmd := 0x20, tx := f, txlen := s.plen + 2, txv := true, txext := false, err := 0x00 } ∧
          bufGet f 0 = 0x00 ∧ bufGet f 1 = op ∧ (∀ i < s.plen.toNat, bufGet f (2 + i) = bufGet s.pl i) ∧
            ∀ i, s.plen.toNat + 2 ≤ i → bufGet f i = 0x00) ∧
      (admitBasic op s.plen = false →
        exec (.encode op) s = .next { s with
          arg := op, lastCmd := 0x20, err := 4, errAcc := s.errAcc ||| 0x08 })

/-- 42_codec.md R109, with R75: ENCODE_EXT of an admitted payload builds the extended frame, its length big-endian, and
zeros after it; any other payload length fails with LEN. That ARG holds the command word's operand is the model's reading
of a command word (log 6). -/
def Obligations.EncodeExtBuildsTheExtendedFrame : Prop :=
  ∀ (op : Byte) (s : State),
    decode (.cmd ((0x21 : Byte) ++ op)) = .ok (.encodeExt op) ∧
      (admitExt op s.plen = true →
        ∃ f : Buf 64,
          exec (.encodeExt op) s = .next { s with
            arg := op, lastCmd := 0x21, tx := f, txlen := s.plen + 8, txv := true, txext := true, err := 0x00 } ∧
          bufGet f 0 = 0x00 ∧ (∀ i, 1 ≤ i → i ≤ 4 → bufGet f i = 0xFF) ∧ bufGet f 5 = op ∧
            bufGet f 6 = 0x00 ∧ bufGet f 7 = s.plen ∧
            (∀ i < s.plen.toNat, bufGet f (8 + i) = bufGet s.pl i) ∧
            ∀ i, s.plen.toNat + 8 ≤ i → bufGet f i = 0x00) ∧
      (admitExt op s.plen = false →
        exec (.encodeExt op) s = .next { s with
          arg := op, lastCmd := 0x21, err := 4, errAcc := s.errAcc ||| 0x08 })

/-- 42_codec.md R105: the payload lengths of the basic frame. -/
def Obligations.BasicAdmissionFollowsItsTable : Prop :=
  ∀ op n : Byte, admitBasic op n = true ↔
    (op ∈ ([0x80, 0x81, 0x82, 0x84] : List Byte) ∧ n = 0) ∨ (op = 0x83 ∧ n = 2) ∨ (op = 0x85 ∧ n = 32) ∨
      (op = 0x86 ∧ n = 36) ∨ (op = 0x87 ∧ n = 32) ∨ ((op.toNat < 0x80 ∨ 0x87 < op.toNat) ∧ n.toNat ≤ 61)

/-- 42_codec.md R106: the payload lengths of the extended frame. -/
def Obligations.ExtAdmissionFollowsItsTable : Prop :=
  ∀ op n : Byte, admitExt op n = true ↔
    (op = 0x21 ∧ n = 0) ∨ (op = 0x22 ∧ n.toNat ≤ 20) ∨ (op = 0x23 ∧ n = 0) ∨ (op = 0x24 ∧ n = 2) ∨
      (op ∈ ([0x25, 0x26] : List Byte) ∧ n = 4) ∨
      ((op.toNat < 0x21 ∨ (0x26 < op.toNat ∧ op.toNat < 0x80) ∨ 0x87 < op.toNat) ∧ n.toNat ≤ 56)

/-- 42_codec.md R107: the response class of every wire opcode. -/
def Obligations.ResponseClassFollowsItsTable : Prop :=
  ∀ op : Byte,
    (cls op = .serial ↔ op = 0x80) ∧
      (cls op = .status ↔ op ∈ ([0x81, 0x83, 0x85, 0x86, 0x87] : List Byte)) ∧
      (cls op = .query ↔ op = 0x82) ∧ (cls op = .raw ↔ op = 0x84) ∧
      (cls op = .none ↔ op.toNat < 0x80 ∨ 0x87 < op.toNat)

/-- 42_codec.md R110 and 60_exceptions.md R122: DECODE reports the first check that fails, and changes only LASTCMD, ERR
and ERRACC. -/
def Obligations.DecodeReportsTheFirstFailure : Prop :=
  ∀ (a : Byte) (s : State),
    let fails (c bit : Byte) : Prop :=
      exec (.decode a) s = .next { s with lastCmd := 0x28, err := c, errAcc := s.errAcc ||| bit }
    (s.txv = false → fails 6 0x20) ∧
      (s.txv = true → s.txext = true → fails 8 0x80) ∧
      (s.txv = true → s.txext = false → cls (bufGet s.tx 1) = .none → fails 8 0x80) ∧
      (s.txv = true → s.txext = false → cls (bufGet s.tx 1) ≠ .none → s.rxlen.toNat < 64 → fails 1 0x01) ∧
      (s.txv = true → s.txext = false → cls (bufGet s.tx 1) ≠ .none → 64 < s.rxlen.toNat → fails 2 0x02) ∧
      (s.txv = true → s.txext = false → cls (bufGet s.tx 1) ∈ [.serial, .status, .query] → s.rxlen = 64 →
        bufGet s.rx 0 ≠ bufGet s.tx 1 → fails 2 0x02) ∧
      (s.txv = true → s.txext = false → cls (bufGet s.tx 1) = .serial → s.rxlen = 64 →
        bufGet s.rx 0 = bufGet s.tx 1 → 9 < (bufGet s.rx 1).toNat → fails 2 0x02) ∧
      (s.txv = true → s.txext = false → cls (bufGet s.tx 1) = .status → s.rxlen = 64 →
        bufGet s.rx 0 = bufGet s.tx 1 → bufGet s.rx 1 ≠ 0x01 → fails 3 0x04)

/-- 42_codec.md R110, SERIAL: the serial goes to SER with zeros after it, its length to SERLEN, and CFGV is cleared. -/
def Obligations.DecodeAcceptsASerial : Prop :=
  ∀ (a : Byte) (s : State),
    s.txv = true → s.txext = false → bufGet s.tx 1 = 0x80 → s.rxlen = 64 → bufGet s.rx 0 = 0x80 →
      (bufGet s.rx 1).toNat ≤ 9 →
      ∃ r : Buf 9,
        exec (.decode a) s = .next { s with
          lastCmd := 0x28, ser := r, serlen := bufGet s.rx 1, cfgv := false, rxEcho := 0x80,
          rxStat := bufGet s.rx 1, rxPoff := 2, rxPlen := bufGet s.rx 1, err := 0x00 } ∧
        ∀ i < 9, bufGet r i = if i < (bufGet s.rx 1).toNat then bufGet s.rx (2 + i) else 0x00

/-- 42_codec.md R110, STATUS: a status of 1 is success. -/
def Obligations.DecodeAcceptsASuccessStatus : Prop :=
  ∀ (a : Byte) (s : State),
    s.txv = true → s.txext = false → bufGet s.tx 1 ∈ ([0x81, 0x83, 0x85, 0x86, 0x87] : List Byte) → s.rxlen = 64 →
      bufGet s.rx 0 = bufGet s.tx 1 → bufGet s.rx 1 = 0x01 →
      exec (.decode a) s = .next { s with
        lastCmd := 0x28, rxEcho := bufGet s.rx 0, rxStat := 0x01, rxPoff := 2, rxPlen := 62, err := 0x00 }

/-- 42_codec.md R110, QUERY, and 10_state.md R22: CONFIGURED says whether the status byte is 1, and neither value is an
error. -/
def Obligations.DecodeAnswersTheQuery : Prop :=
  ∀ (a : Byte) (s : State),
    s.txv = true → s.txext = false → bufGet s.tx 1 = 0x82 → s.rxlen = 64 → bufGet s.rx 0 = 0x82 →
      exec (.decode a) s = .next { s with
        lastCmd := 0x28, configured := decide (bufGet s.rx 1 = 0x01), rxEcho := 0x82, rxStat := bufGet s.rx 1,
        rxPoff := 2, rxPlen := 62, err := 0x00 }

/-- 42_codec.md R110, RAW: a GENKEY response of 64 bytes is never an error, whatever its bytes. -/
def Obligations.DecodeAcceptsAnyKeyMaterial : Prop :=
  ∀ (a : Byte) (s : State),
    s.txv = true → s.txext = false → bufGet s.tx 1 = 0x84 → s.rxlen = 64 →
      exec (.decode a) s = .next { s with
        lastCmd := 0x28, rxEcho := bufGet s.rx 0, rxStat := bufGet s.rx 1, rxPoff := 0, rxPlen := 64, err := 0x00 }

/-! ## The wire opcodes -/

/-- The model's choice (log 7), from 30_encoding.md R74, R77 and R78: with PLEN at the opcode's length, each basic request
builds a frame whose first two bytes are its table word. -/
def Obligations.BasicRequestsBuildTheirFrames : Prop :=
  ∀ (i : Instr) (op n : Byte) (s : State),
    (i, op, n) ∈ ([(.getSerialNum, 0x80, 0), (.isBuild, 0x81, 0), (.isConfigured, 0x82, 0), (.lock, 0x83, 2),
      (.genkey, 0x84, 0), (.loadTransKey, 0x85, 32), (.loadWriteKey, 0x86, 36), (.loadAttestKey, 0x87, 32)] :
        List (Instr × Byte × Byte)) → s.plen = n →
    ∃ f : Buf 64,
      exec i s = .next { s with
        arg := op, lastCmd := 0x20, tx := f, txlen := n + 2, txv := true, txext := false, err := 0x00 } ∧
      encode i = .frame [bufGet f 0, bufGet f 1] ∧ bufGet f 0 = 0x00 ∧ bufGet f 1 = op ∧
      (∀ k < n.toNat, bufGet f (2 + k) = bufGet s.pl k) ∧ ∀ k, n.toNat + 2 ≤ k → bufGet f k = 0x00

/-- The model's choice (log 8), from 30_encoding.md R75, R77 and R78: with an admitted length, each extended request
builds a frame whose first eight bytes are its table word, and leaves the length in PLEN. -/
def Obligations.ExtendedRequestsBuildTheirFrames : Prop :=
  ∀ (i : Instr) (op n : Byte) (s : State),
    (i, op) ∈ ([(.customRng (n.setWidth 16), 0x21), (.customSeed (n.setWidth 16), 0x22),
      (.customWipe (n.setWidth 16), 0x23), (.customPulse (n.setWidth 16), 0x24),
      (.customIdleColor (n.setWidth 16), 0x25), (.customIdleColorp (n.setWidth 16), 0x26)] : List (Instr × Byte)) →
    WellFormed i = true →
    ∃ f : Buf 64,
      exec i s = .next { s with
        arg := op, plen := n, lastCmd := 0x21, tx := f, txlen := n + 8, txv := true, txext := true, err := 0x00 } ∧
      encode i = .frame ((List.range 8).map fun k => bufGet f k) ∧ bufGet f 5 = op ∧
      (∀ k < n.toNat, bufGet f (8 + k) = bufGet s.pl k) ∧ ∀ k, n.toNat + 8 ≤ k → bufGet f k = 0x00

/-- The model's choice (logs 7 and 8), from 42_codec.md R108 and R109: a request frame of a length its opcode does not
admit fails with LEN, and TX keeps the frame it held. -/
def Obligations.RequestsOfOtherLengthsRaiseLen : Prop :=
  (∀ (i : Instr) (op n : Byte) (s : State),
    (i, op, n) ∈ ([(.getSerialNum, 0x80, 0), (.isBuild, 0x81, 0), (.isConfigured, 0x82, 0), (.lock, 0x83, 2),
      (.genkey, 0x84, 0), (.loadTransKey, 0x85, 32), (.loadWriteKey, 0x86, 36), (.loadAttestKey, 0x87, 32)] :
        List (Instr × Byte × Byte)) → s.plen ≠ n →
    exec i s = .next { s with arg := op, lastCmd := 0x20, err := 4, errAcc := s.errAcc ||| 0x08 }) ∧
  (∀ (i : Instr) (op : Byte) (len : Half) (s : State),
    (i, op) ∈ ([(.customRng len, 0x21), (.customSeed len, 0x22), (.customWipe len, 0x23), (.customPulse len, 0x24),
      (.customIdleColor len, 0x25), (.customIdleColorp len, 0x26)] : List (Instr × Byte)) →
    WellFormed i = false →
    ∃ t, exec i s = .next t ∧ t.err = 4 ∧ t.errAcc = s.errAcc ||| 0x08 ∧ t.tx = s.tx ∧ t.txlen = s.txlen ∧
      t.txv = s.txv ∧ t.txext = s.txext)

/-! ## The bus -/

/-- 20_memory.md R53 and R58: a read shows the byte at its address on the port and changes no byte of the address space.
That the port keeps the byte is the model's choice (log 2). -/
def Obligations.ReadsChangeNoByte : Prop :=
  ∀ (a : Addr) (w : Byte) (s : State), ∃ t,
    exec (.rd a w) s = .next t ∧ t.rdata = memRead a s ∧ (∀ b : Addr, memRead b t = memRead b s) ∧
      t = { s with rdata := t.rdata }

/-- 20_memory.md R59: what a read of every address returns. -/
def Obligations.MemReadFollowsTheMap : Prop :=
  ∀ s : State,
    memRead 0x000 s = s.lastCmd ∧ memRead 0x001 s = s.arg ∧
    memRead 0x002 s = ((if s.err ≠ 0 then 0x80 else 0) ||| (if s.configured then 0x10 else 0) |||
      (if s.txext then 0x08 else 0) ||| (if s.txv then 0x04 else 0) ||| (if s.maskv then 0x02 else 0) |||
      (if s.cfgv then 0x01 else 0)) ∧
    memRead 0x003 s = s.err ∧ memRead 0x004 s = s.errAcc ∧ memRead 0x005 s = 0x01 ∧
    memRead 0x006 s ++ memRead 0x007 s = s.crc ∧
    memRead 0x008 s = s.out0 ∧ memRead 0x009 s = s.out1 ∧ memRead 0x00A s = s.plen ∧ memRead 0x00B s = s.txlen ∧
    memRead 0x00C s = s.rxlen ∧ memRead 0x00D s = s.rxEcho ∧ memRead 0x00E s = s.rxStat ∧
    memRead 0x00F s = s.rxPoff ∧ memRead 0x010 s = s.rxPlen ∧ memRead 0x011 s = s.serlen ∧
    (∀ a : Addr, 0x040 ≤ a.toNat → a.toNat ≤ 0x07F → memRead a s = bufGet s.tx (a.toNat - 0x040)) ∧
    (∀ a : Addr, 0x080 ≤ a.toNat → a.toNat ≤ 0x0BC → memRead a s = bufGet s.pl (a.toNat - 0x080)) ∧
    (∀ a : Addr, 0x0C0 ≤ a.toNat → a.toNat ≤ 0x0FF → memRead a s = bufGet s.rx (a.toNat - 0x0C0)) ∧
    (∀ a : Addr, 0x100 ≤ a.toNat → a.toNat ≤ 0x17F → memRead a s = bufGet s.tpl (a.toNat - 0x100)) ∧
    (∀ a : Addr, 0x180 ≤ a.toNat → a.toNat ≤ 0x1FF → memRead a s = bufGet s.cfg (a.toNat - 0x180)) ∧
    (∀ a : Addr, 0x200 ≤ a.toNat → a.toNat ≤ 0x21F → memRead a s = bufGet s.key (a.toNat - 0x200)) ∧
    (∀ a : Addr, 0x220 ≤ a.toNat → a.toNat ≤ 0x243 → memRead a s = bufGet s.mask (a.toNat - 0x220)) ∧
    (∀ a : Addr, 0x244 ≤ a.toNat → a.toNat ≤ 0x24C → memRead a s = bufGet s.ser (a.toNat - 0x244)) ∧
    (∀ a : Addr, (0x012 ≤ a.toNat ∧ a.toNat ≤ 0x03F) ∨ (0x0BD ≤ a.toNat ∧ a.toNat ≤ 0x0BF) ∨ 0x24D ≤ a.toNat →
      memRead a s = 0x00)

/-- 20_memory.md R60, the register addresses: what each write stores, and the write-1-to-clear of ERRACC. -/
def Obligations.RegisterWritesFollowTheMap : Prop :=
  ∀ (v : Byte) (s : State),
    exec (.wr 0x001 v) s = .next { s with arg := v } ∧
    exec (.wr 0x004 v) s = .next { s with errAcc := s.errAcc &&& ~~~v } ∧
    exec (.wr 0x00A v) s = .next { s with plen := v } ∧
    exec (.wr 0x00C v) s = .next { s with rxlen := v } ∧
    exec (.wr 0x011 v) s = .next { s with serlen := v, cfgv := false }

/-- 20_memory.md R60, the buffer addresses: a write stores its one byte, and clears CFGV for TPL and SER, MASKV for
KEY. -/
def Obligations.BufferWritesFollowTheMap : Prop :=
  ∀ (v : Byte) (s : State),
    (∀ i < 61, ∃ b, exec (.wr (BitVec.ofNat 10 (0x080 + i)) v) s = .next { s with pl := b } ∧
      ∀ j < 61, bufGet b j = if j = i then v else bufGet s.pl j) ∧
    (∀ i < 64, ∃ b, exec (.wr (BitVec.ofNat 10 (0x0C0 + i)) v) s = .next { s with rx := b } ∧
      ∀ j < 64, bufGet b j = if j = i then v else bufGet s.rx j) ∧
    (∀ i < 128, ∃ b, exec (.wr (BitVec.ofNat 10 (0x100 + i)) v) s = .next { s with tpl := b, cfgv := false } ∧
      ∀ j < 128, bufGet b j = if j = i then v else bufGet s.tpl j) ∧
    (∀ i < 32, ∃ b, exec (.wr (BitVec.ofNat 10 (0x200 + i)) v) s = .next { s with key := b, maskv := false } ∧
      ∀ j < 32, bufGet b j = if j = i then v else bufGet s.key j) ∧
    (∀ i < 9, ∃ b, exec (.wr (BitVec.ofNat 10 (0x244 + i)) v) s = .next { s with ser := b, cfgv := false } ∧
      ∀ j < 9, bufGet b j = if j = i then v else bufGet s.ser j)

/-- 20_memory.md R51: a write to a read-only or reserved address has no effect and raises no error; a reserved address
reads 0x00, and no access to any address faults. -/
def Obligations.ReadOnlyAndReservedWritesAreIgnored : Prop :=
  ∀ (a : Addr) (v : Byte) (s : State),
    ((a.toNat ∈ [0x002, 0x003, 0x005, 0x006, 0x007, 0x008, 0x009, 0x00B, 0x00D, 0x00E, 0x00F, 0x010] ∨
      (0x040 ≤ a.toNat ∧ a.toNat ≤ 0x07F) ∨ (0x180 ≤ a.toNat ∧ a.toNat ≤ 0x1FF) ∨
      (0x220 ≤ a.toNat ∧ a.toNat ≤ 0x243)) → exec (.wr a v) s = .next s) ∧
    ((0x012 ≤ a.toNat ∧ a.toNat ≤ 0x03F) ∨ (0x0BD ≤ a.toNat ∧ a.toNat ≤ 0x0BF) ∨ 0x24D ≤ a.toNat →
      exec (.wr a v) s = .next s ∧ memRead a s = 0x00) ∧
    (∃ t, exec (.rd a v) s = .next t) ∧ ∃ t, exec (.wr a v) s = .next t

/-- 20_memory.md R63: a read of a read/write item after a write to it returns the byte written, and every other byte but
STATUS reads as before. -/
def Obligations.WritesReadBackAndKeepOtherBytes : Prop :=
  ∀ (a : Addr) (v : Byte) (s : State),
    a.toNat ∈ [0x001, 0x00A, 0x00C, 0x011] ∨ (0x080 ≤ a.toNat ∧ a.toNat ≤ 0x0BC) ∨
      (0x0C0 ≤ a.toNat ∧ a.toNat ≤ 0x17F) ∨ (0x200 ≤ a.toNat ∧ a.toNat ≤ 0x21F) ∨
      (0x244 ≤ a.toNat ∧ a.toNat ≤ 0x24C) →
    ∃ t, exec (.wr a v) s = .next t ∧ memRead a t = v ∧
      ∀ b : Addr, b ≠ a → b ≠ 0x002 → memRead b t = memRead b s

/-! ## Rules about the whole block -/

/-- The frame of every instruction (20_memory.md R58, 30_encoding.md R71): outside its footprint every address reads as
before, and only a read changes the port's data. That the port keeps a byte is the model's choice (log 2), as are the
queue of transactions (log 1) and the forms of the request rows (logs 7 and 8). -/
def Obligations.EveryInstructionStaysInItsFootprint : Prop :=
  ∀ (i : Instr) (s t : State), exec i s = .next t →
    (∀ a : Addr, footprint i a.toNat = false → memRead a t = memRead a s) ∧
      t.pending = s.pending ∧ t.openReads = s.openReads ∧ (t.rdata = s.rdata ∨ ∃ a w, i = .rd a w)

/-- 60_exceptions.md R120: a command that fails changes nothing but ERR, ERRACC and LASTCMD. -/
def Obligations.FailedCommandsArePrecise : Prop :=
  ∀ (v : Byte) (s t : State), exec (.wr 0x000 v) s = .next t → t.err ≠ 0 →
    t = { s with lastCmd := v, err := t.err, errAcc := s.errAcc ||| (1 <<< (t.err.toNat - 1)) }

/-- 60_exceptions.md R121 and 10_state.md R24: a command leaves a code of at most 8 in ERR, and a command that succeeds
leaves ERRACC alone, but for CLR_ERR. -/
def Obligations.SuccessfulCommandsKeepTheErrorRecord : Prop :=
  ∀ (v : Byte) (s t : State), exec (.wr 0x000 v) s = .next t →
    t.lastCmd = v ∧ t.err.toNat ≤ 8 ∧ (t.err = 0 → t.errAcc = if v = 0x7E then 0x00 else s.errAcc)

/-- 10_state.md R18: what sets CFGV, what clears it, and that nothing else changes it. -/
def Obligations.CfgvChangesOnlyAsItsRuleSays : Prop :=
  (∀ (a : Byte) (s t : State), exec (.fold a) s = .next t → t.err = 0 → t.cfgv = true) ∧
    (∀ (a : Addr) (v : Byte) (s t : State),
      a.toNat = 0x011 ∨ (0x100 ≤ a.toNat ∧ a.toNat ≤ 0x17F) ∨ (0x244 ≤ a.toNat ∧ a.toNat ≤ 0x24C) →
      exec (.wr a v) s = .next t → t.cfgv = false) ∧
    (∀ (a : Byte) (s t : State), exec (.decode a) s = .next t → t.err = 0 → bufGet s.tx 1 = 0x80 → t.cfgv = false) ∧
    (∀ (i : Instr) (s t : State), exec i s = .next t → t.cfgv ≠ s.cfgv →
      (commandCode i = some 0x08 ∧ t.err = 0) ∨
      (commandCode i = some 0x28 ∧ t.err = 0 ∧ bufGet s.tx 1 = 0x80) ∨
      (∃ a v, i = .wr a v ∧
        (a.toNat = 0x011 ∨ (0x100 ≤ a.toNat ∧ a.toNat ≤ 0x17F) ∨ (0x244 ≤ a.toNat ∧ a.toNat ≤ 0x24C)))) ∧
    (∀ (a : Byte) (s : State), s.cfgv = false → ∃ t, exec (.crcCfg a) s = .next t ∧ t.err = 6)

/-- 10_state.md R19: what sets MASKV, what clears it, that nothing else changes it, that no command depends on it, and
that MASK reads the same whatever it is. -/
def Obligations.MaskvChangesOnlyAsItsRuleSays : Prop :=
  (∀ (a : Byte) (s t : State), exec (.derive a) s = .next t → t.maskv = true) ∧
    (∀ (a : Addr) (v : Byte) (s t : State), 0x200 ≤ a.toNat → a.toNat ≤ 0x21F →
      exec (.wr a v) s = .next t → t.maskv = false ∧ t.mask = s.mask) ∧
    (∀ (i : Instr) (s t : State), exec i s = .next t → t.maskv ≠ s.maskv →
      commandCode i = some 0x10 ∨ ∃ a v, i = .wr a v ∧ 0x200 ≤ a.toNat ∧ a.toNat ≤ 0x21F) ∧
    (∀ (v : Byte) (s t : State) (b : Bool), exec (.wr 0x000 v) s = .next t →
      exec (.wr 0x000 v) { s with maskv := b } = .next { t with maskv := if v = 0x10 then true else b }) ∧
    (∀ (a : Addr) (s : State) (b : Bool), 0x220 ≤ a.toNat → a.toNat ≤ 0x243 →
      memRead a { s with maskv := b } = bufGet s.mask (a.toNat - 0x220))

/-- 10_state.md R20, R21, R22 and R37: TXV is never cleared by a transaction; TXV, TXEXT, TXLEN and TX change only by a
successful encode; CONFIGURED only by a successful DECODE of IS_CONFIGURED. -/
def Obligations.FrameStateChangesOnlyByEncoding : Prop :=
  ∀ (i : Instr) (s t : State), exec i s = .next t →
    (s.txv = true → t.txv = true) ∧
      ((t.txv, t.txext, t.txlen, t.tx) ≠ (s.txv, s.txext, s.txlen, s.tx) →
        t.err = 0 ∧ t.txv = true ∧
          ((commandCode i = some 0x20 ∧ t.txext = false) ∨ (commandCode i = some 0x21 ∧ t.txext = true))) ∧
      (t.configured ≠ s.configured →
        commandCode i = some 0x28 ∧ t.err = 0 ∧ bufGet s.tx 1 = 0x82 ∧ t.configured = decide (bufGet s.rx 1 = 0x01))

/-- 10_state.md R26, R27, R32 to R35, R41 and R43: each result register and buffer is written only by its own commands. -/
def Obligations.ResultsAreWrittenOnlyByTheirCommands : Prop :=
  ∀ (i : Instr) (s t : State), exec i s = .next t →
    (t.crc ≠ s.crc → commandCode i ∈ [some 0x01, some 0x02, some 0x03]) ∧
      ((t.out0, t.out1) ≠ (s.out0, s.out1) → commandCode i ∈ [some 0x04, some 0x05]) ∧
      (t.cfg ≠ s.cfg → commandCode i = some 0x08) ∧
      (t.mask ≠ s.mask → commandCode i = some 0x10) ∧
      ((t.rxEcho, t.rxStat, t.rxPoff, t.rxPlen) ≠ (s.rxEcho, s.rxStat, s.rxPoff, s.rxPlen) →
        commandCode i = some 0x28 ∧ t.err = 0)

/-- 10_state.md R16, R28, R31, R38, R39, R40 and R42: a command, run by a write to CMD, never writes ARG, PLEN, RXLEN, PL,
RX, TPL or KEY, and it writes SER and SERLEN only as a DECODE. -/
def Obligations.CommandsNeverWriteTheirInputs : Prop :=
  ∀ (v : Byte) (s t : State), exec (.wr 0x000 v) s = .next t →
    t.arg = s.arg ∧ t.plen = s.plen ∧ t.rxlen = s.rxlen ∧ t.pl = s.pl ∧ t.rx = s.rx ∧ t.tpl = s.tpl ∧ t.key = s.key ∧
      (v ≠ 0x28 → t.ser = s.ser ∧ t.serlen = s.serlen)

/-- 70_reset_and_hazards.md R143: a write to TPL, SER or SERLEN leaves CFG as it was, and CRC_CFG then fails with NOTREADY
until FOLD runs again. -/
def Obligations.AStaleFoldIsNotChecksummed : Prop :=
  ∀ (a : Addr) (v x : Byte) (s : State),
    a.toNat = 0x011 ∨ (0x100 ≤ a.toNat ∧ a.toNat ≤ 0x17F) ∨ (0x244 ≤ a.toNat ∧ a.toNat ≤ 0x24C) →
    ∃ t u, exec (.wr a v) s = .next t ∧ t.cfg = s.cfg ∧ exec (.crcCfg x) t = .next u ∧ u.err = 6 ∧ u.crc = s.crc ∧
      ∀ w, exec (.fold x) t = .next w → w.err = 0 → ∃ z, exec (.crcCfg x) w = .next z ∧ z.err = 0

/-- 10_state.md R42 and 30_encoding.md R70: KEY is an operand of DERIVE alone. An instruction that is no DERIVE and no bus
access to KEY does the same whatever KEY holds. -/
def Obligations.TheKeyReachesOnlyDerive : Prop :=
  ∀ (i : Instr) (s : State) (k : Buf 32),
    commandCode i ≠ some 0x10 →
    (∀ a w, i = .rd a w → a.toNat < 0x200 ∨ 0x21F < a.toNat) →
    (∀ a w, i = .wr a w → a.toNat < 0x200 ∨ 0x21F < a.toNat) →
    ∃ t, exec i s = .next t ∧ exec i { s with key := k } = .next { t with key := k }

/-- 60_exceptions.md R118: the block never stops accepting transactions. -/
def Obligations.EveryStepAnswersANextState : Prop :=
  (∀ (i : Instr) (s : State), ∃ t, exec i s = .next t) ∧ ∀ s : State, ∃ t, step s = .next t

/-- 10_state.md R17, R24, R29, R34, R35 and R37: every step keeps the registers legal, CFGV and MASKV truthful, and one
whole admitted frame in TX. -/
def Obligations.EveryStepKeepsTheInvariant : Prop :=
  ∀ s t : State, Inv s → step s = .next t → Inv t

/-- The reset state has the invariant. -/
def Obligations.ResetHasTheInvariant : Prop := Inv State.reset

/-! ## Reset -/

/-- 10_state.md R48: every address reads 0x00 after reset, but ID, which reads 0x01, and TPL, which is the
template. -/
def Obligations.ResetReadsAsItsTable : Prop :=
  ∀ a : Addr,
    memRead a State.reset =
      if a = 0x005 then 0x01
      else if 0x100 ≤ a.toNat ∧ a.toNat ≤ 0x17F then bufGet Config.configTemplate (a.toNat - 0x100)
      else 0x00

/-- 70_reset_and_hazards.md R137 and R138: asserting reset, with or without a transaction under it, leaves every item at
its reset value. That the transactions still to come and the port's data are no items is the model's choice (log 13). -/
def Obligations.AssertingResetRestoresEveryItem : Prop :=
  ∀ (s : State) (o : Option BusWord) (rest : List BusEvent), s.pending = .reset o :: rest →
    ∃ t, step s = .next t ∧ (∀ a : Addr, memRead a t = memRead a State.reset) ∧ t.pending = rest ∧
      t = { State.reset with rdata := t.rdata, pending := rest, openReads := t.openReads } ∧
      (t.rdata = s.rdata ∨ t.rdata = Config.resetReadByte s.openReads)

/-! ## Steps, decoding and encoding -/

/-- 20_memory.md R52: a step takes the next transaction in issue order and runs exactly the instruction its word decodes
to, from the state with that transaction taken; with none, nothing changes. That the
transactions to come are a list in the state is the model's choice (log 1). -/
def Obligations.AStepRunsTheNextTransaction : Prop :=
  ∀ (s : State),
    (∀ (w : BusWord) (rest : List BusEvent) (i : Instr),
      s.pending = .transaction w :: rest → decode (.bus w) = .ok i → step s = exec i { s with pending := rest }) ∧
    (s.pending = [] → step s = .next s)

/-- The model's choice (log 10), from 30_encoding.md R66, R69 and R78: the word of every row of the opcode table, placed as
the next transaction, runs the instruction it decodes to. -/
def Obligations.APlacedTableWordRuns : Prop :=
  ∀ (s : State) (nbits w : Nat) (i : Instr), decodeTableWord nbits w = some i →
    step (s.withFetchWord nbits w) = exec i { s.withFetchWord nbits w with pending := s.pending }

/-- 30_encoding.md R68, R69, R74 and R75: decoding an encoded instruction gives it back, for every instruction and every
value of its operands. -/
def Obligations.DecodeInvertsEncode : Prop := ∀ i : Instr, decode (encode i) = .ok i

/-- 30_encoding.md R68 and R69: encoding what a CMD or BUS word decodes to gives the word back, so no two words are one
instruction; every BUS word is an instruction, and the CMD words that are none have a reserved code (R72). -/
def Obligations.EncodeInvertsDecode : Prop :=
  (∀ (w : CmdWord) (i : Instr), decode (.cmd w) = .ok i → encode i = .cmd w) ∧
    (∀ w : BusWord, ∃ i, decode (.bus w) = .ok i ∧ encode i = .bus w) ∧
    (∀ (w : CmdWord) (e : DecodeError), decode (.cmd w) = .error e → e = .reservedCommand (w.extractLsb' 8 8) ∧
      w.extractLsb' 8 8 ∉ ([0x00, 0x01, 0x02, 0x03, 0x04, 0x05, 0x08, 0x10, 0x20, 0x21, 0x28, 0x7E] : List Byte))

/-- 30_encoding.md R75 and R77: a frame is an auxiliary request exactly when it has the extended header with opcode 0x21
to 0x26, and then its length field, big-endian, and the payload after it are read whole. -/
def Obligations.ExtendedHeadersAreReadWhole : Prop :=
  ∀ (op hi lo : Byte) (p : List Byte),
    (0x21 ≤ op.toNat ∧ op.toNat ≤ 0x26 →
      ∃ i, decodeFrame ([0x00, 0xFF, 0xFF, 0xFF, 0xFF, op, hi, lo] ++ p) = .ok (i, p) ∧
        encode i = .frame [0x00, 0xFF, 0xFF, 0xFF, 0xFF, op, hi, lo]) ∧
    (op.toNat < 0x21 ∨ 0x26 < op.toNat →
      ∃ e, decodeFrame ([0x00, 0xFF, 0xFF, 0xFF, 0xFF, op, hi, lo] ++ p) = .error e)

/-- Words written out from the spec's encodings decode to what they stand for: the bus words of 95_test_vectors.md P2, a
command word, and the two frame forms. -/
def Obligations.WrittenOutWordsDecode : Prop :=
  decode (.bus 0b1000000000100000001#19) = .ok (.wr 0x001 0x01) ∧
    decode (.bus 0b0000000011000000000#19) = .ok (.rd 0x006 0x00) ∧
    decode (.bus 0x64401) = .ok (.wr 0x244 0x01) ∧
    decode (.cmd 0x2083) = .ok (.encode 0x83) ∧
    decode (.frame [0x00, 0x83, 0xBB, 0x3D]) = .ok .lock ∧
    decode (.frame [0x00, 0xFF, 0xFF, 0xFF, 0xFF, 0x24, 0x00, 0x02]) = .ok (.customPulse 2)
end

