-- ==== Sys2Proof/Laws/Buffer.lean ====
section
/-! SUPPORT. The laws of byte buffers: what each operation reads as, byte by byte. -/

namespace Sys2Proof.Machine

variable {n : Nat}

theorem bufGet_of_lt (b : Buf n) {i : Nat} (h : i < n) : bufGet b i = b[i] := by
  simp [bufGet, Vector.getElem?_eq_getElem h]

theorem bufGet_of_ge (b : Buf n) {i : Nat} (h : n ≤ i) : bufGet b i = 0x00 := by
  simp [bufGet, Vector.getElem?_eq_none h]

@[simp] theorem bufGet_zero (n i : Nat) : bufGet (bufZero n) i = 0x00 := by
  by_cases h : i < n
  · simp [bufGet_of_lt _ h, bufZero]
  · exact bufGet_of_ge _ (by omega)

theorem bufGet_of (f : Nat → Byte) (i : Nat) : bufGet (bufOf n f) i = if i < n then f i else 0x00 := by
  by_cases h : i < n
  · simp [bufGet_of_lt _ h, bufOf, h]
  · simp [bufGet_of_ge _ (Nat.le_of_not_lt h), h]

theorem bufGet_ofList (l : List Byte) (i : Nat) :
    bufGet (bufOfList n l) i = if i < n then l.getD i 0x00 else 0x00 := bufGet_of _ i

theorem bufGet_set (b : Buf n) (i j : Nat) (v : Byte) :
    bufGet (bufSet b i v) j = if j = i ∧ i < n then v else bufGet b j := by
  by_cases hj : j < n
  · rw [bufGet_of_lt _ hj, bufGet_of_lt _ hj]
    simp only [bufSet, Vector.getElem_setIfInBounds]
    by_cases h : i = j
    · subst h; simp [hj]
    · simp [h, Ne.symm h]
  · rw [bufGet_of_ge _ (Nat.le_of_not_lt hj), bufGet_of_ge _ (Nat.le_of_not_lt hj)]
    have : ¬ (j = i ∧ i < n) := by omega
    simp [this]

/-- Buffers are equal when they read the same. -/
theorem buf_ext {b c : Buf n} (h : ∀ i < n, bufGet b i = bufGet c i) : b = c :=
  Vector.ext fun i hi => by simpa [bufGet_of_lt _ hi] using h i hi

theorem bufTake_length (b : Buf n) (k : Nat) : (bufTake b k).length = min k n := by simp [bufTake]

theorem bufTake_getD (b : Buf n) (k i : Nat) (d : Byte) :
    (bufTake b k).getD i d = if i < k ∧ i < n then bufGet b i else d := by
  by_cases hn : i < n
  · by_cases hk : i < k
    · simp [bufTake, List.getD, hk, hn, bufGet_of_lt _ hn]
    · simp [bufTake, List.getD, hk]
  · simp [bufTake, List.getD, hn]

end Sys2Proof.Machine
end

