-- ==== Sys2Proof/Laws/Decode.lean ====
section
/-! SUPPORT. The fields of the block's two word formats, read back from the words the encoder builds (30_encoding.md R68,
R69). -/

namespace Sys2Proof

theorem extract_high {m n : Nat} (x : BitVec m) (y : BitVec n) : (x ++ y).extractLsb' n m = x := by
  apply BitVec.eq_of_getLsbD_eq
  intro i hi
  simp [BitVec.getLsbD_append, hi]

theorem extract_low {m n : Nat} (x : BitVec m) (y : BitVec n) : (x ++ y).extractLsb' 0 n = y := by
  apply BitVec.eq_of_getLsbD_eq
  intro i hi
  simp [BitVec.getLsbD_append, hi]

/-- A CMD word decodes by its two fields. -/
theorem decode_cmd_fields (code arg : Byte) : decode (.cmd (code ++ arg)) = decodeCmd code arg :=
  congrArg₂ decodeCmd (extract_high code arg) (extract_low code arg)

/-- The two bytes of a half, put together again. -/
theorem half_bytes (c : Half) : c.extractLsb' 8 8 ++ c.extractLsb' 0 8 = c := by
  apply BitVec.eq_of_getLsbD_eq
  intro i hi
  rw [BitVec.getLsbD_append]
  by_cases h : i < 8
  · simp [h]
  · have h' : i - 8 < 8 := by omega
    simp [h, h', Nat.add_sub_cancel' (Nat.le_of_not_lt h)]

end Sys2Proof
end

