-- ==== Sys2Proof/Laws/State.lean ====
section
/-! SUPPORT. Every named update of the state, field by field: one lemma per field per update. -/

namespace Sys2Proof.Machine

variable (s : State)

/-! `foldInputWritten` (10_state.md R18). -/

@[simp] theorem State.foldInputWritten_lastCmd : (s.foldInputWritten).lastCmd = s.lastCmd := rfl
@[simp] theorem State.foldInputWritten_arg : (s.foldInputWritten).arg = s.arg := rfl
@[simp] theorem State.foldInputWritten_cfgv : (s.foldInputWritten).cfgv = false := rfl
@[simp] theorem State.foldInputWritten_maskv : (s.foldInputWritten).maskv = s.maskv := rfl
@[simp] theorem State.foldInputWritten_txv : (s.foldInputWritten).txv = s.txv := rfl
@[simp] theorem State.foldInputWritten_txext : (s.foldInputWritten).txext = s.txext := rfl
@[simp] theorem State.foldInputWritten_configured : (s.foldInputWritten).configured = s.configured := rfl
@[simp] theorem State.foldInputWritten_err : (s.foldInputWritten).err = s.err := rfl
@[simp] theorem State.foldInputWritten_errAcc : (s.foldInputWritten).errAcc = s.errAcc := rfl
@[simp] theorem State.foldInputWritten_crc : (s.foldInputWritten).crc = s.crc := rfl
@[simp] theorem State.foldInputWritten_out0 : (s.foldInputWritten).out0 = s.out0 := rfl
@[simp] theorem State.foldInputWritten_out1 : (s.foldInputWritten).out1 = s.out1 := rfl
@[simp] theorem State.foldInputWritten_plen : (s.foldInputWritten).plen = s.plen := rfl
@[simp] theorem State.foldInputWritten_txlen : (s.foldInputWritten).txlen = s.txlen := rfl
@[simp] theorem State.foldInputWritten_rxlen : (s.foldInputWritten).rxlen = s.rxlen := rfl
@[simp] theorem State.foldInputWritten_rxEcho : (s.foldInputWritten).rxEcho = s.rxEcho := rfl
@[simp] theorem State.foldInputWritten_rxStat : (s.foldInputWritten).rxStat = s.rxStat := rfl
@[simp] theorem State.foldInputWritten_rxPoff : (s.foldInputWritten).rxPoff = s.rxPoff := rfl
@[simp] theorem State.foldInputWritten_rxPlen : (s.foldInputWritten).rxPlen = s.rxPlen := rfl
@[simp] theorem State.foldInputWritten_serlen : (s.foldInputWritten).serlen = s.serlen := rfl
@[simp] theorem State.foldInputWritten_tx : (s.foldInputWritten).tx = s.tx := rfl
@[simp] theorem State.foldInputWritten_pl : (s.foldInputWritten).pl = s.pl := rfl
@[simp] theorem State.foldInputWritten_rx : (s.foldInputWritten).rx = s.rx := rfl
@[simp] theorem State.foldInputWritten_tpl : (s.foldInputWritten).tpl = s.tpl := rfl
@[simp] theorem State.foldInputWritten_cfg : (s.foldInputWritten).cfg = s.cfg := rfl
@[simp] theorem State.foldInputWritten_key : (s.foldInputWritten).key = s.key := rfl
@[simp] theorem State.foldInputWritten_mask : (s.foldInputWritten).mask = s.mask := rfl
@[simp] theorem State.foldInputWritten_ser : (s.foldInputWritten).ser = s.ser := rfl
@[simp] theorem State.foldInputWritten_rdata : (s.foldInputWritten).rdata = s.rdata := rfl
@[simp] theorem State.foldInputWritten_pending : (s.foldInputWritten).pending = s.pending := rfl
@[simp] theorem State.foldInputWritten_openReads : (s.foldInputWritten).openReads = s.openReads := rfl

/-! `keyWritten` (10_state.md R19). -/

@[simp] theorem State.keyWritten_lastCmd : (s.keyWritten).lastCmd = s.lastCmd := rfl
@[simp] theorem State.keyWritten_arg : (s.keyWritten).arg = s.arg := rfl
@[simp] theorem State.keyWritten_cfgv : (s.keyWritten).cfgv = s.cfgv := rfl
@[simp] theorem State.keyWritten_maskv : (s.keyWritten).maskv = false := rfl
@[simp] theorem State.keyWritten_txv : (s.keyWritten).txv = s.txv := rfl
@[simp] theorem State.keyWritten_txext : (s.keyWritten).txext = s.txext := rfl
@[simp] theorem State.keyWritten_configured : (s.keyWritten).configured = s.configured := rfl
@[simp] theorem State.keyWritten_err : (s.keyWritten).err = s.err := rfl
@[simp] theorem State.keyWritten_errAcc : (s.keyWritten).errAcc = s.errAcc := rfl
@[simp] theorem State.keyWritten_crc : (s.keyWritten).crc = s.crc := rfl
@[simp] theorem State.keyWritten_out0 : (s.keyWritten).out0 = s.out0 := rfl
@[simp] theorem State.keyWritten_out1 : (s.keyWritten).out1 = s.out1 := rfl
@[simp] theorem State.keyWritten_plen : (s.keyWritten).plen = s.plen := rfl
@[simp] theorem State.keyWritten_txlen : (s.keyWritten).txlen = s.txlen := rfl
@[simp] theorem State.keyWritten_rxlen : (s.keyWritten).rxlen = s.rxlen := rfl
@[simp] theorem State.keyWritten_rxEcho : (s.keyWritten).rxEcho = s.rxEcho := rfl
@[simp] theorem State.keyWritten_rxStat : (s.keyWritten).rxStat = s.rxStat := rfl
@[simp] theorem State.keyWritten_rxPoff : (s.keyWritten).rxPoff = s.rxPoff := rfl
@[simp] theorem State.keyWritten_rxPlen : (s.keyWritten).rxPlen = s.rxPlen := rfl
@[simp] theorem State.keyWritten_serlen : (s.keyWritten).serlen = s.serlen := rfl
@[simp] theorem State.keyWritten_tx : (s.keyWritten).tx = s.tx := rfl
@[simp] theorem State.keyWritten_pl : (s.keyWritten).pl = s.pl := rfl
@[simp] theorem State.keyWritten_rx : (s.keyWritten).rx = s.rx := rfl
@[simp] theorem State.keyWritten_tpl : (s.keyWritten).tpl = s.tpl := rfl
@[simp] theorem State.keyWritten_cfg : (s.keyWritten).cfg = s.cfg := rfl
@[simp] theorem State.keyWritten_key : (s.keyWritten).key = s.key := rfl
@[simp] theorem State.keyWritten_mask : (s.keyWritten).mask = s.mask := rfl
@[simp] theorem State.keyWritten_ser : (s.keyWritten).ser = s.ser := rfl
@[simp] theorem State.keyWritten_rdata : (s.keyWritten).rdata = s.rdata := rfl
@[simp] theorem State.keyWritten_pending : (s.keyWritten).pending = s.pending := rfl
@[simp] theorem State.keyWritten_openReads : (s.keyWritten).openReads = s.openReads := rfl

/-! `withArg` (10_state.md R16). -/

@[simp] theorem State.withArg_lastCmd (a : Byte) : (s.withArg a).lastCmd = s.lastCmd := rfl
@[simp] theorem State.withArg_arg (a : Byte) : (s.withArg a).arg = a := rfl
@[simp] theorem State.withArg_cfgv (a : Byte) : (s.withArg a).cfgv = s.cfgv := rfl
@[simp] theorem State.withArg_maskv (a : Byte) : (s.withArg a).maskv = s.maskv := rfl
@[simp] theorem State.withArg_txv (a : Byte) : (s.withArg a).txv = s.txv := rfl
@[simp] theorem State.withArg_txext (a : Byte) : (s.withArg a).txext = s.txext := rfl
@[simp] theorem State.withArg_configured (a : Byte) : (s.withArg a).configured = s.configured := rfl
@[simp] theorem State.withArg_err (a : Byte) : (s.withArg a).err = s.err := rfl
@[simp] theorem State.withArg_errAcc (a : Byte) : (s.withArg a).errAcc = s.errAcc := rfl
@[simp] theorem State.withArg_crc (a : Byte) : (s.withArg a).crc = s.crc := rfl
@[simp] theorem State.withArg_out0 (a : Byte) : (s.withArg a).out0 = s.out0 := rfl
@[simp] theorem State.withArg_out1 (a : Byte) : (s.withArg a).out1 = s.out1 := rfl
@[simp] theorem State.withArg_plen (a : Byte) : (s.withArg a).plen = s.plen := rfl
@[simp] theorem State.withArg_txlen (a : Byte) : (s.withArg a).txlen = s.txlen := rfl
@[simp] theorem State.withArg_rxlen (a : Byte) : (s.withArg a).rxlen = s.rxlen := rfl
@[simp] theorem State.withArg_rxEcho (a : Byte) : (s.withArg a).rxEcho = s.rxEcho := rfl
@[simp] theorem State.withArg_rxStat (a : Byte) : (s.withArg a).rxStat = s.rxStat := rfl
@[simp] theorem State.withArg_rxPoff (a : Byte) : (s.withArg a).rxPoff = s.rxPoff := rfl
@[simp] theorem State.withArg_rxPlen (a : Byte) : (s.withArg a).rxPlen = s.rxPlen := rfl
@[simp] theorem State.withArg_serlen (a : Byte) : (s.withArg a).serlen = s.serlen := rfl
@[simp] theorem State.withArg_tx (a : Byte) : (s.withArg a).tx = s.tx := rfl
@[simp] theorem State.withArg_pl (a : Byte) : (s.withArg a).pl = s.pl := rfl
@[simp] theorem State.withArg_rx (a : Byte) : (s.withArg a).rx = s.rx := rfl
@[simp] theorem State.withArg_tpl (a : Byte) : (s.withArg a).tpl = s.tpl := rfl
@[simp] theorem State.withArg_cfg (a : Byte) : (s.withArg a).cfg = s.cfg := rfl
@[simp] theorem State.withArg_key (a : Byte) : (s.withArg a).key = s.key := rfl
@[simp] theorem State.withArg_mask (a : Byte) : (s.withArg a).mask = s.mask := rfl
@[simp] theorem State.withArg_ser (a : Byte) : (s.withArg a).ser = s.ser := rfl
@[simp] theorem State.withArg_rdata (a : Byte) : (s.withArg a).rdata = s.rdata := rfl
@[simp] theorem State.withArg_pending (a : Byte) : (s.withArg a).pending = s.pending := rfl
@[simp] theorem State.withArg_openReads (a : Byte) : (s.withArg a).openReads = s.openReads := rfl

/-! `withPlen` (10_state.md R28). -/

@[simp] theorem State.withPlen_lastCmd (n : Byte) : (s.withPlen n).lastCmd = s.lastCmd := rfl
@[simp] theorem State.withPlen_arg (n : Byte) : (s.withPlen n).arg = s.arg := rfl
@[simp] theorem State.withPlen_cfgv (n : Byte) : (s.withPlen n).cfgv = s.cfgv := rfl
@[simp] theorem State.withPlen_maskv (n : Byte) : (s.withPlen n).maskv = s.maskv := rfl
@[simp] theorem State.withPlen_txv (n : Byte) : (s.withPlen n).txv = s.txv := rfl
@[simp] theorem State.withPlen_txext (n : Byte) : (s.withPlen n).txext = s.txext := rfl
@[simp] theorem State.withPlen_configured (n : Byte) : (s.withPlen n).configured = s.configured := rfl
@[simp] theorem State.withPlen_err (n : Byte) : (s.withPlen n).err = s.err := rfl
@[simp] theorem State.withPlen_errAcc (n : Byte) : (s.withPlen n).errAcc = s.errAcc := rfl
@[simp] theorem State.withPlen_crc (n : Byte) : (s.withPlen n).crc = s.crc := rfl
@[simp] theorem State.withPlen_out0 (n : Byte) : (s.withPlen n).out0 = s.out0 := rfl
@[simp] theorem State.withPlen_out1 (n : Byte) : (s.withPlen n).out1 = s.out1 := rfl
@[simp] theorem State.withPlen_plen (n : Byte) : (s.withPlen n).plen = n := rfl
@[simp] theorem State.withPlen_txlen (n : Byte) : (s.withPlen n).txlen = s.txlen := rfl
@[simp] theorem State.withPlen_rxlen (n : Byte) : (s.withPlen n).rxlen = s.rxlen := rfl
@[simp] theorem State.withPlen_rxEcho (n : Byte) : (s.withPlen n).rxEcho = s.rxEcho := rfl
@[simp] theorem State.withPlen_rxStat (n : Byte) : (s.withPlen n).rxStat = s.rxStat := rfl
@[simp] theorem State.withPlen_rxPoff (n : Byte) : (s.withPlen n).rxPoff = s.rxPoff := rfl
@[simp] theorem State.withPlen_rxPlen (n : Byte) : (s.withPlen n).rxPlen = s.rxPlen := rfl
@[simp] theorem State.withPlen_serlen (n : Byte) : (s.withPlen n).serlen = s.serlen := rfl
@[simp] theorem State.withPlen_tx (n : Byte) : (s.withPlen n).tx = s.tx := rfl
@[simp] theorem State.withPlen_pl (n : Byte) : (s.withPlen n).pl = s.pl := rfl
@[simp] theorem State.withPlen_rx (n : Byte) : (s.withPlen n).rx = s.rx := rfl
@[simp] theorem State.withPlen_tpl (n : Byte) : (s.withPlen n).tpl = s.tpl := rfl
@[simp] theorem State.withPlen_cfg (n : Byte) : (s.withPlen n).cfg = s.cfg := rfl
@[simp] theorem State.withPlen_key (n : Byte) : (s.withPlen n).key = s.key := rfl
@[simp] theorem State.withPlen_mask (n : Byte) : (s.withPlen n).mask = s.mask := rfl
@[simp] theorem State.withPlen_ser (n : Byte) : (s.withPlen n).ser = s.ser := rfl
@[simp] theorem State.withPlen_rdata (n : Byte) : (s.withPlen n).rdata = s.rdata := rfl
@[simp] theorem State.withPlen_pending (n : Byte) : (s.withPlen n).pending = s.pending := rfl
@[simp] theorem State.withPlen_openReads (n : Byte) : (s.withPlen n).openReads = s.openReads := rfl

/-! `recorded` (10_state.md R15). -/

@[simp] theorem State.recorded_lastCmd (c : Byte) : (s.recorded c).lastCmd = c := rfl
@[simp] theorem State.recorded_arg (c : Byte) : (s.recorded c).arg = s.arg := rfl
@[simp] theorem State.recorded_cfgv (c : Byte) : (s.recorded c).cfgv = s.cfgv := rfl
@[simp] theorem State.recorded_maskv (c : Byte) : (s.recorded c).maskv = s.maskv := rfl
@[simp] theorem State.recorded_txv (c : Byte) : (s.recorded c).txv = s.txv := rfl
@[simp] theorem State.recorded_txext (c : Byte) : (s.recorded c).txext = s.txext := rfl
@[simp] theorem State.recorded_configured (c : Byte) : (s.recorded c).configured = s.configured := rfl
@[simp] theorem State.recorded_err (c : Byte) : (s.recorded c).err = s.err := rfl
@[simp] theorem State.recorded_errAcc (c : Byte) : (s.recorded c).errAcc = s.errAcc := rfl
@[simp] theorem State.recorded_crc (c : Byte) : (s.recorded c).crc = s.crc := rfl
@[simp] theorem State.recorded_out0 (c : Byte) : (s.recorded c).out0 = s.out0 := rfl
@[simp] theorem State.recorded_out1 (c : Byte) : (s.recorded c).out1 = s.out1 := rfl
@[simp] theorem State.recorded_plen (c : Byte) : (s.recorded c).plen = s.plen := rfl
@[simp] theorem State.recorded_txlen (c : Byte) : (s.recorded c).txlen = s.txlen := rfl
@[simp] theorem State.recorded_rxlen (c : Byte) : (s.recorded c).rxlen = s.rxlen := rfl
@[simp] theorem State.recorded_rxEcho (c : Byte) : (s.recorded c).rxEcho = s.rxEcho := rfl
@[simp] theorem State.recorded_rxStat (c : Byte) : (s.recorded c).rxStat = s.rxStat := rfl
@[simp] theorem State.recorded_rxPoff (c : Byte) : (s.recorded c).rxPoff = s.rxPoff := rfl
@[simp] theorem State.recorded_rxPlen (c : Byte) : (s.recorded c).rxPlen = s.rxPlen := rfl
@[simp] theorem State.recorded_serlen (c : Byte) : (s.recorded c).serlen = s.serlen := rfl
@[simp] theorem State.recorded_tx (c : Byte) : (s.recorded c).tx = s.tx := rfl
@[simp] theorem State.recorded_pl (c : Byte) : (s.recorded c).pl = s.pl := rfl
@[simp] theorem State.recorded_rx (c : Byte) : (s.recorded c).rx = s.rx := rfl
@[simp] theorem State.recorded_tpl (c : Byte) : (s.recorded c).tpl = s.tpl := rfl
@[simp] theorem State.recorded_cfg (c : Byte) : (s.recorded c).cfg = s.cfg := rfl
@[simp] theorem State.recorded_key (c : Byte) : (s.recorded c).key = s.key := rfl
@[simp] theorem State.recorded_mask (c : Byte) : (s.recorded c).mask = s.mask := rfl
@[simp] theorem State.recorded_ser (c : Byte) : (s.recorded c).ser = s.ser := rfl
@[simp] theorem State.recorded_rdata (c : Byte) : (s.recorded c).rdata = s.rdata := rfl
@[simp] theorem State.recorded_pending (c : Byte) : (s.recorded c).pending = s.pending := rfl
@[simp] theorem State.recorded_openReads (c : Byte) : (s.recorded c).openReads = s.openReads := rfl

/-! `raised` (60_exceptions.md R120). -/

@[simp] theorem State.raised_lastCmd (e : CmdError) : (s.raised e).lastCmd = s.lastCmd := rfl
@[simp] theorem State.raised_arg (e : CmdError) : (s.raised e).arg = s.arg := rfl
@[simp] theorem State.raised_cfgv (e : CmdError) : (s.raised e).cfgv = s.cfgv := rfl
@[simp] theorem State.raised_maskv (e : CmdError) : (s.raised e).maskv = s.maskv := rfl
@[simp] theorem State.raised_txv (e : CmdError) : (s.raised e).txv = s.txv := rfl
@[simp] theorem State.raised_txext (e : CmdError) : (s.raised e).txext = s.txext := rfl
@[simp] theorem State.raised_configured (e : CmdError) : (s.raised e).configured = s.configured := rfl
@[simp] theorem State.raised_err (e : CmdError) : (s.raised e).err = e.code := rfl
@[simp] theorem State.raised_errAcc (e : CmdError) : (s.raised e).errAcc = s.errAcc ||| e.accBit := rfl
@[simp] theorem State.raised_crc (e : CmdError) : (s.raised e).crc = s.crc := rfl
@[simp] theorem State.raised_out0 (e : CmdError) : (s.raised e).out0 = s.out0 := rfl
@[simp] theorem State.raised_out1 (e : CmdError) : (s.raised e).out1 = s.out1 := rfl
@[simp] theorem State.raised_plen (e : CmdError) : (s.raised e).plen = s.plen := rfl
@[simp] theorem State.raised_txlen (e : CmdError) : (s.raised e).txlen = s.txlen := rfl
@[simp] theorem State.raised_rxlen (e : CmdError) : (s.raised e).rxlen = s.rxlen := rfl
@[simp] theorem State.raised_rxEcho (e : CmdError) : (s.raised e).rxEcho = s.rxEcho := rfl
@[simp] theorem State.raised_rxStat (e : CmdError) : (s.raised e).rxStat = s.rxStat := rfl
@[simp] theorem State.raised_rxPoff (e : CmdError) : (s.raised e).rxPoff = s.rxPoff := rfl
@[simp] theorem State.raised_rxPlen (e : CmdError) : (s.raised e).rxPlen = s.rxPlen := rfl
@[simp] theorem State.raised_serlen (e : CmdError) : (s.raised e).serlen = s.serlen := rfl
@[simp] theorem State.raised_tx (e : CmdError) : (s.raised e).tx = s.tx := rfl
@[simp] theorem State.raised_pl (e : CmdError) : (s.raised e).pl = s.pl := rfl
@[simp] theorem State.raised_rx (e : CmdError) : (s.raised e).rx = s.rx := rfl
@[simp] theorem State.raised_tpl (e : CmdError) : (s.raised e).tpl = s.tpl := rfl
@[simp] theorem State.raised_cfg (e : CmdError) : (s.raised e).cfg = s.cfg := rfl
@[simp] theorem State.raised_key (e : CmdError) : (s.raised e).key = s.key := rfl
@[simp] theorem State.raised_mask (e : CmdError) : (s.raised e).mask = s.mask := rfl
@[simp] theorem State.raised_ser (e : CmdError) : (s.raised e).ser = s.ser := rfl
@[simp] theorem State.raised_rdata (e : CmdError) : (s.raised e).rdata = s.rdata := rfl
@[simp] theorem State.raised_pending (e : CmdError) : (s.raised e).pending = s.pending := rfl
@[simp] theorem State.raised_openReads (e : CmdError) : (s.raised e).openReads = s.openReads := rfl

/-! `succeeded` (60_exceptions.md R121). -/

@[simp] theorem State.succeeded_lastCmd : (s.succeeded).lastCmd = s.lastCmd := rfl
@[simp] theorem State.succeeded_arg : (s.succeeded).arg = s.arg := rfl
@[simp] theorem State.succeeded_cfgv : (s.succeeded).cfgv = s.cfgv := rfl
@[simp] theorem State.succeeded_maskv : (s.succeeded).maskv = s.maskv := rfl
@[simp] theorem State.succeeded_txv : (s.succeeded).txv = s.txv := rfl
@[simp] theorem State.succeeded_txext : (s.succeeded).txext = s.txext := rfl
@[simp] theorem State.succeeded_configured : (s.succeeded).configured = s.configured := rfl
@[simp] theorem State.succeeded_err : (s.succeeded).err = 0x00 := rfl
@[simp] theorem State.succeeded_errAcc : (s.succeeded).errAcc = s.errAcc := rfl
@[simp] theorem State.succeeded_crc : (s.succeeded).crc = s.crc := rfl
@[simp] theorem State.succeeded_out0 : (s.succeeded).out0 = s.out0 := rfl
@[simp] theorem State.succeeded_out1 : (s.succeeded).out1 = s.out1 := rfl
@[simp] theorem State.succeeded_plen : (s.succeeded).plen = s.plen := rfl
@[simp] theorem State.succeeded_txlen : (s.succeeded).txlen = s.txlen := rfl
@[simp] theorem State.succeeded_rxlen : (s.succeeded).rxlen = s.rxlen := rfl
@[simp] theorem State.succeeded_rxEcho : (s.succeeded).rxEcho = s.rxEcho := rfl
@[simp] theorem State.succeeded_rxStat : (s.succeeded).rxStat = s.rxStat := rfl
@[simp] theorem State.succeeded_rxPoff : (s.succeeded).rxPoff = s.rxPoff := rfl
@[simp] theorem State.succeeded_rxPlen : (s.succeeded).rxPlen = s.rxPlen := rfl
@[simp] theorem State.succeeded_serlen : (s.succeeded).serlen = s.serlen := rfl
@[simp] theorem State.succeeded_tx : (s.succeeded).tx = s.tx := rfl
@[simp] theorem State.succeeded_pl : (s.succeeded).pl = s.pl := rfl
@[simp] theorem State.succeeded_rx : (s.succeeded).rx = s.rx := rfl
@[simp] theorem State.succeeded_tpl : (s.succeeded).tpl = s.tpl := rfl
@[simp] theorem State.succeeded_cfg : (s.succeeded).cfg = s.cfg := rfl
@[simp] theorem State.succeeded_key : (s.succeeded).key = s.key := rfl
@[simp] theorem State.succeeded_mask : (s.succeeded).mask = s.mask := rfl
@[simp] theorem State.succeeded_ser : (s.succeeded).ser = s.ser := rfl
@[simp] theorem State.succeeded_rdata : (s.succeeded).rdata = s.rdata := rfl
@[simp] theorem State.succeeded_pending : (s.succeeded).pending = s.pending := rfl
@[simp] theorem State.succeeded_openReads : (s.succeeded).openReads = s.openReads := rfl

/-! `withOut` (10_state.md R27). -/

@[simp] theorem State.withOut_lastCmd (o : Byte × Byte) : (s.withOut o).lastCmd = s.lastCmd := rfl
@[simp] theorem State.withOut_arg (o : Byte × Byte) : (s.withOut o).arg = s.arg := rfl
@[simp] theorem State.withOut_cfgv (o : Byte × Byte) : (s.withOut o).cfgv = s.cfgv := rfl
@[simp] theorem State.withOut_maskv (o : Byte × Byte) : (s.withOut o).maskv = s.maskv := rfl
@[simp] theorem State.withOut_txv (o : Byte × Byte) : (s.withOut o).txv = s.txv := rfl
@[simp] theorem State.withOut_txext (o : Byte × Byte) : (s.withOut o).txext = s.txext := rfl
@[simp] theorem State.withOut_configured (o : Byte × Byte) : (s.withOut o).configured = s.configured := rfl
@[simp] theorem State.withOut_err (o : Byte × Byte) : (s.withOut o).err = s.err := rfl
@[simp] theorem State.withOut_errAcc (o : Byte × Byte) : (s.withOut o).errAcc = s.errAcc := rfl
@[simp] theorem State.withOut_crc (o : Byte × Byte) : (s.withOut o).crc = s.crc := rfl
@[simp] theorem State.withOut_out0 (o : Byte × Byte) : (s.withOut o).out0 = o.1 := rfl
@[simp] theorem State.withOut_out1 (o : Byte × Byte) : (s.withOut o).out1 = o.2 := rfl
@[simp] theorem State.withOut_plen (o : Byte × Byte) : (s.withOut o).plen = s.plen := rfl
@[simp] theorem State.withOut_txlen (o : Byte × Byte) : (s.withOut o).txlen = s.txlen := rfl
@[simp] theorem State.withOut_rxlen (o : Byte × Byte) : (s.withOut o).rxlen = s.rxlen := rfl
@[simp] theorem State.withOut_rxEcho (o : Byte × Byte) : (s.withOut o).rxEcho = s.rxEcho := rfl
@[simp] theorem State.withOut_rxStat (o : Byte × Byte) : (s.withOut o).rxStat = s.rxStat := rfl
@[simp] theorem State.withOut_rxPoff (o : Byte × Byte) : (s.withOut o).rxPoff = s.rxPoff := rfl
@[simp] theorem State.withOut_rxPlen (o : Byte × Byte) : (s.withOut o).rxPlen = s.rxPlen := rfl
@[simp] theorem State.withOut_serlen (o : Byte × Byte) : (s.withOut o).serlen = s.serlen := rfl
@[simp] theorem State.withOut_tx (o : Byte × Byte) : (s.withOut o).tx = s.tx := rfl
@[simp] theorem State.withOut_pl (o : Byte × Byte) : (s.withOut o).pl = s.pl := rfl
@[simp] theorem State.withOut_rx (o : Byte × Byte) : (s.withOut o).rx = s.rx := rfl
@[simp] theorem State.withOut_tpl (o : Byte × Byte) : (s.withOut o).tpl = s.tpl := rfl
@[simp] theorem State.withOut_cfg (o : Byte × Byte) : (s.withOut o).cfg = s.cfg := rfl
@[simp] theorem State.withOut_key (o : Byte × Byte) : (s.withOut o).key = s.key := rfl
@[simp] theorem State.withOut_mask (o : Byte × Byte) : (s.withOut o).mask = s.mask := rfl
@[simp] theorem State.withOut_ser (o : Byte × Byte) : (s.withOut o).ser = s.ser := rfl
@[simp] theorem State.withOut_rdata (o : Byte × Byte) : (s.withOut o).rdata = s.rdata := rfl
@[simp] theorem State.withOut_pending (o : Byte × Byte) : (s.withOut o).pending = s.pending := rfl
@[simp] theorem State.withOut_openReads (o : Byte × Byte) : (s.withOut o).openReads = s.openReads := rfl

/-! `framed` (10_state.md R37). -/

@[simp] theorem State.framed_lastCmd (l : List Byte) (n : Byte) (x : Bool) :
    (s.framed l n x).lastCmd = s.lastCmd := rfl
@[simp] theorem State.framed_arg (l : List Byte) (n : Byte) (x : Bool) : (s.framed l n x).arg = s.arg := rfl
@[simp] theorem State.framed_cfgv (l : List Byte) (n : Byte) (x : Bool) : (s.framed l n x).cfgv = s.cfgv := rfl
@[simp] theorem State.framed_maskv (l : List Byte) (n : Byte) (x : Bool) : (s.framed l n x).maskv = s.maskv := rfl
@[simp] theorem State.framed_txv (l : List Byte) (n : Byte) (x : Bool) : (s.framed l n x).txv = true := rfl
@[simp] theorem State.framed_txext (l : List Byte) (n : Byte) (x : Bool) : (s.framed l n x).txext = x := rfl
@[simp] theorem State.framed_configured (l : List Byte) (n : Byte) (x : Bool) :
    (s.framed l n x).configured = s.configured := rfl
@[simp] theorem State.framed_err (l : List Byte) (n : Byte) (x : Bool) : (s.framed l n x).err = s.err := rfl
@[simp] theorem State.framed_errAcc (l : List Byte) (n : Byte) (x : Bool) : (s.framed l n x).errAcc = s.errAcc := rfl
@[simp] theorem State.framed_crc (l : List Byte) (n : Byte) (x : Bool) : (s.framed l n x).crc = s.crc := rfl
@[simp] theorem State.framed_out0 (l : List Byte) (n : Byte) (x : Bool) : (s.framed l n x).out0 = s.out0 := rfl
@[simp] theorem State.framed_out1 (l : List Byte) (n : Byte) (x : Bool) : (s.framed l n x).out1 = s.out1 := rfl
@[simp] theorem State.framed_plen (l : List Byte) (n : Byte) (x : Bool) : (s.framed l n x).plen = s.plen := rfl
@[simp] theorem State.framed_txlen (l : List Byte) (n : Byte) (x : Bool) : (s.framed l n x).txlen = n := rfl
@[simp] theorem State.framed_rxlen (l : List Byte) (n : Byte) (x : Bool) : (s.framed l n x).rxlen = s.rxlen := rfl
@[simp] theorem State.framed_rxEcho (l : List Byte) (n : Byte) (x : Bool) : (s.framed l n x).rxEcho = s.rxEcho := rfl
@[simp] theorem State.framed_rxStat (l : List Byte) (n : Byte) (x : Bool) : (s.framed l n x).rxStat = s.rxStat := rfl
@[simp] theorem State.framed_rxPoff (l : List Byte) (n : Byte) (x : Bool) : (s.framed l n x).rxPoff = s.rxPoff := rfl
@[simp] theorem State.framed_rxPlen (l : List Byte) (n : Byte) (x : Bool) : (s.framed l n x).rxPlen = s.rxPlen := rfl
@[simp] theorem State.framed_serlen (l : List Byte) (n : Byte) (x : Bool) : (s.framed l n x).serlen = s.serlen := rfl
@[simp] theorem State.framed_tx (l : List Byte) (n : Byte) (x : Bool) : (s.framed l n x).tx = bufOfList 64 l := rfl
@[simp] theorem State.framed_pl (l : List Byte) (n : Byte) (x : Bool) : (s.framed l n x).pl = s.pl := rfl
@[simp] theorem State.framed_rx (l : List Byte) (n : Byte) (x : Bool) : (s.framed l n x).rx = s.rx := rfl
@[simp] theorem State.framed_tpl (l : List Byte) (n : Byte) (x : Bool) : (s.framed l n x).tpl = s.tpl := rfl
@[simp] theorem State.framed_cfg (l : List Byte) (n : Byte) (x : Bool) : (s.framed l n x).cfg = s.cfg := rfl
@[simp] theorem State.framed_key (l : List Byte) (n : Byte) (x : Bool) : (s.framed l n x).key = s.key := rfl
@[simp] theorem State.framed_mask (l : List Byte) (n : Byte) (x : Bool) : (s.framed l n x).mask = s.mask := rfl
@[simp] theorem State.framed_ser (l : List Byte) (n : Byte) (x : Bool) : (s.framed l n x).ser = s.ser := rfl
@[simp] theorem State.framed_rdata (l : List Byte) (n : Byte) (x : Bool) : (s.framed l n x).rdata = s.rdata := rfl
@[simp] theorem State.framed_pending (l : List Byte) (n : Byte) (x : Bool) :
    (s.framed l n x).pending = s.pending := rfl
@[simp] theorem State.framed_openReads (l : List Byte) (n : Byte) (x : Bool) :
    (s.framed l n x).openReads = s.openReads := rfl

/-! `received` (10_state.md R32 to R35). -/

@[simp] theorem State.received_lastCmd (p q : Byte) : (s.received p q).lastCmd = s.lastCmd := rfl
@[simp] theorem State.received_arg (p q : Byte) : (s.received p q).arg = s.arg := rfl
@[simp] theorem State.received_cfgv (p q : Byte) : (s.received p q).cfgv = s.cfgv := rfl
@[simp] theorem State.received_maskv (p q : Byte) : (s.received p q).maskv = s.maskv := rfl
@[simp] theorem State.received_txv (p q : Byte) : (s.received p q).txv = s.txv := rfl
@[simp] theorem State.received_txext (p q : Byte) : (s.received p q).txext = s.txext := rfl
@[simp] theorem State.received_configured (p q : Byte) : (s.received p q).configured = s.configured := rfl
@[simp] theorem State.received_err (p q : Byte) : (s.received p q).err = s.err := rfl
@[simp] theorem State.received_errAcc (p q : Byte) : (s.received p q).errAcc = s.errAcc := rfl
@[simp] theorem State.received_crc (p q : Byte) : (s.received p q).crc = s.crc := rfl
@[simp] theorem State.received_out0 (p q : Byte) : (s.received p q).out0 = s.out0 := rfl
@[simp] theorem State.received_out1 (p q : Byte) : (s.received p q).out1 = s.out1 := rfl
@[simp] theorem State.received_plen (p q : Byte) : (s.received p q).plen = s.plen := rfl
@[simp] theorem State.received_txlen (p q : Byte) : (s.received p q).txlen = s.txlen := rfl
@[simp] theorem State.received_rxlen (p q : Byte) : (s.received p q).rxlen = s.rxlen := rfl
@[simp] theorem State.received_rxEcho (p q : Byte) : (s.received p q).rxEcho = bufGet s.rx 0 := rfl
@[simp] theorem State.received_rxStat (p q : Byte) : (s.received p q).rxStat = bufGet s.rx 1 := rfl
@[simp] theorem State.received_rxPoff (p q : Byte) : (s.received p q).rxPoff = p := rfl
@[simp] theorem State.received_rxPlen (p q : Byte) : (s.received p q).rxPlen = q := rfl
@[simp] theorem State.received_serlen (p q : Byte) : (s.received p q).serlen = s.serlen := rfl
@[simp] theorem State.received_tx (p q : Byte) : (s.received p q).tx = s.tx := rfl
@[simp] theorem State.received_pl (p q : Byte) : (s.received p q).pl = s.pl := rfl
@[simp] theorem State.received_rx (p q : Byte) : (s.received p q).rx = s.rx := rfl
@[simp] theorem State.received_tpl (p q : Byte) : (s.received p q).tpl = s.tpl := rfl
@[simp] theorem State.received_cfg (p q : Byte) : (s.received p q).cfg = s.cfg := rfl
@[simp] theorem State.received_key (p q : Byte) : (s.received p q).key = s.key := rfl
@[simp] theorem State.received_mask (p q : Byte) : (s.received p q).mask = s.mask := rfl
@[simp] theorem State.received_ser (p q : Byte) : (s.received p q).ser = s.ser := rfl
@[simp] theorem State.received_rdata (p q : Byte) : (s.received p q).rdata = s.rdata := rfl
@[simp] theorem State.received_pending (p q : Byte) : (s.received p q).pending = s.pending := rfl
@[simp] theorem State.received_openReads (p q : Byte) : (s.received p q).openReads = s.openReads := rfl

/-! `serialReceived` (42_codec.md R110). -/

@[simp] theorem State.serialReceived_lastCmd (n : Byte) : (s.serialReceived n).lastCmd = s.lastCmd := rfl
@[simp] theorem State.serialReceived_arg (n : Byte) : (s.serialReceived n).arg = s.arg := rfl
@[simp] theorem State.serialReceived_cfgv (n : Byte) : (s.serialReceived n).cfgv = false := rfl
@[simp] theorem State.serialReceived_maskv (n : Byte) : (s.serialReceived n).maskv = s.maskv := rfl
@[simp] theorem State.serialReceived_txv (n : Byte) : (s.serialReceived n).txv = s.txv := rfl
@[simp] theorem State.serialReceived_txext (n : Byte) : (s.serialReceived n).txext = s.txext := rfl
@[simp] theorem State.serialReceived_configured (n : Byte) : (s.serialReceived n).configured = s.configured := rfl
@[simp] theorem State.serialReceived_err (n : Byte) : (s.serialReceived n).err = s.err := rfl
@[simp] theorem State.serialReceived_errAcc (n : Byte) : (s.serialReceived n).errAcc = s.errAcc := rfl
@[simp] theorem State.serialReceived_crc (n : Byte) : (s.serialReceived n).crc = s.crc := rfl
@[simp] theorem State.serialReceived_out0 (n : Byte) : (s.serialReceived n).out0 = s.out0 := rfl
@[simp] theorem State.serialReceived_out1 (n : Byte) : (s.serialReceived n).out1 = s.out1 := rfl
@[simp] theorem State.serialReceived_plen (n : Byte) : (s.serialReceived n).plen = s.plen := rfl
@[simp] theorem State.serialReceived_txlen (n : Byte) : (s.serialReceived n).txlen = s.txlen := rfl
@[simp] theorem State.serialReceived_rxlen (n : Byte) : (s.serialReceived n).rxlen = s.rxlen := rfl
@[simp] theorem State.serialReceived_rxEcho (n : Byte) : (s.serialReceived n).rxEcho = s.rxEcho := rfl
@[simp] theorem State.serialReceived_rxStat (n : Byte) : (s.serialReceived n).rxStat = s.rxStat := rfl
@[simp] theorem State.serialReceived_rxPoff (n : Byte) : (s.serialReceived n).rxPoff = s.rxPoff := rfl
@[simp] theorem State.serialReceived_rxPlen (n : Byte) : (s.serialReceived n).rxPlen = s.rxPlen := rfl
@[simp] theorem State.serialReceived_serlen (n : Byte) : (s.serialReceived n).serlen = n := rfl
@[simp] theorem State.serialReceived_tx (n : Byte) : (s.serialReceived n).tx = s.tx := rfl
@[simp] theorem State.serialReceived_pl (n : Byte) : (s.serialReceived n).pl = s.pl := rfl
@[simp] theorem State.serialReceived_rx (n : Byte) : (s.serialReceived n).rx = s.rx := rfl
@[simp] theorem State.serialReceived_tpl (n : Byte) : (s.serialReceived n).tpl = s.tpl := rfl
@[simp] theorem State.serialReceived_cfg (n : Byte) : (s.serialReceived n).cfg = s.cfg := rfl
@[simp] theorem State.serialReceived_key (n : Byte) : (s.serialReceived n).key = s.key := rfl
@[simp] theorem State.serialReceived_mask (n : Byte) : (s.serialReceived n).mask = s.mask := rfl
@[simp] theorem State.serialReceived_ser (n : Byte) :
    (s.serialReceived n).ser = bufOf 9 fun i => if i < n.toNat then bufGet s.rx (2 + i) else 0x00 := rfl
@[simp] theorem State.serialReceived_rdata (n : Byte) : (s.serialReceived n).rdata = s.rdata := rfl
@[simp] theorem State.serialReceived_pending (n : Byte) : (s.serialReceived n).pending = s.pending := rfl
@[simp] theorem State.serialReceived_openReads (n : Byte) : (s.serialReceived n).openReads = s.openReads := rfl

/-! `withPending` (20_memory.md R52). -/

@[simp] theorem State.withPending_lastCmd (r : List BusEvent) : (s.withPending r).lastCmd = s.lastCmd := rfl
@[simp] theorem State.withPending_arg (r : List BusEvent) : (s.withPending r).arg = s.arg := rfl
@[simp] theorem State.withPending_cfgv (r : List BusEvent) : (s.withPending r).cfgv = s.cfgv := rfl
@[simp] theorem State.withPending_maskv (r : List BusEvent) : (s.withPending r).maskv = s.maskv := rfl
@[simp] theorem State.withPending_txv (r : List BusEvent) : (s.withPending r).txv = s.txv := rfl
@[simp] theorem State.withPending_txext (r : List BusEvent) : (s.withPending r).txext = s.txext := rfl
@[simp] theorem State.withPending_configured (r : List BusEvent) : (s.withPending r).configured = s.configured := rfl
@[simp] theorem State.withPending_err (r : List BusEvent) : (s.withPending r).err = s.err := rfl
@[simp] theorem State.withPending_errAcc (r : List BusEvent) : (s.withPending r).errAcc = s.errAcc := rfl
@[simp] theorem State.withPending_crc (r : List BusEvent) : (s.withPending r).crc = s.crc := rfl
@[simp] theorem State.withPending_out0 (r : List BusEvent) : (s.withPending r).out0 = s.out0 := rfl
@[simp] theorem State.withPending_out1 (r : List BusEvent) : (s.withPending r).out1 = s.out1 := rfl
@[simp] theorem State.withPending_plen (r : List BusEvent) : (s.withPending r).plen = s.plen := rfl
@[simp] theorem State.withPending_txlen (r : List BusEvent) : (s.withPending r).txlen = s.txlen := rfl
@[simp] theorem State.withPending_rxlen (r : List BusEvent) : (s.withPending r).rxlen = s.rxlen := rfl
@[simp] theorem State.withPending_rxEcho (r : List BusEvent) : (s.withPending r).rxEcho = s.rxEcho := rfl
@[simp] theorem State.withPending_rxStat (r : List BusEvent) : (s.withPending r).rxStat = s.rxStat := rfl
@[simp] theorem State.withPending_rxPoff (r : List BusEvent) : (s.withPending r).rxPoff = s.rxPoff := rfl
@[simp] theorem State.withPending_rxPlen (r : List BusEvent) : (s.withPending r).rxPlen = s.rxPlen := rfl
@[simp] theorem State.withPending_serlen (r : List BusEvent) : (s.withPending r).serlen = s.serlen := rfl
@[simp] theorem State.withPending_tx (r : List BusEvent) : (s.withPending r).tx = s.tx := rfl
@[simp] theorem State.withPending_pl (r : List BusEvent) : (s.withPending r).pl = s.pl := rfl
@[simp] theorem State.withPending_rx (r : List BusEvent) : (s.withPending r).rx = s.rx := rfl
@[simp] theorem State.withPending_tpl (r : List BusEvent) : (s.withPending r).tpl = s.tpl := rfl
@[simp] theorem State.withPending_cfg (r : List BusEvent) : (s.withPending r).cfg = s.cfg := rfl
@[simp] theorem State.withPending_key (r : List BusEvent) : (s.withPending r).key = s.key := rfl
@[simp] theorem State.withPending_mask (r : List BusEvent) : (s.withPending r).mask = s.mask := rfl
@[simp] theorem State.withPending_ser (r : List BusEvent) : (s.withPending r).ser = s.ser := rfl
@[simp] theorem State.withPending_rdata (r : List BusEvent) : (s.withPending r).rdata = s.rdata := rfl
@[simp] theorem State.withPending_pending (r : List BusEvent) : (s.withPending r).pending = r := rfl
@[simp] theorem State.withPending_openReads (r : List BusEvent) : (s.withPending r).openReads = s.openReads := rfl

end Sys2Proof.Machine
end

