-- ==== Sys2Proof/Laws/Ops.lean ====
section
/-! SUPPORT. What each shared operation can do, said once: the end of a command, the command bodies, the address map. -/

namespace Sys2Proof.Machine

/-! ## The end of a command (60_exceptions.md R120, R121) -/

theorem command_ok {c : Byte} {body : State → Except CmdError State} {s t : State}
    (h : body (s.recorded c) = .ok t) : command c body s = .next t.succeeded := by simp [command, h]

theorem command_error {c : Byte} {body : State → Except CmdError State} {s : State} {e : CmdError}
    (h : body (s.recorded c) = .error e) : command c body s = .next ((s.recorded c).raised e) := by
  simp [command, h]

/-- A command that answers a next state ended in one of the two ways. -/
theorem command_next {c : Byte} {body : State → Except CmdError State} {s t : State}
    (h : command c body s = .next t) :
    (∃ u, body (s.recorded c) = .ok u ∧ t = u.succeeded) ∨
      (∃ e, body (s.recorded c) = .error e ∧ t = (s.recorded c).raised e) := by
  unfold command at h
  split at h
  · next u hu => exact .inl ⟨u, hu, by cases h; rfl⟩
  · next e he => exact .inr ⟨e, he, by cases h; rfl⟩

/-- A command always answers a next state (60_exceptions.md R118). -/
theorem command_answers (c : Byte) (body : State → Except CmdError State) (s : State) :
    ∃ t, command c body s = .next t := by
  unfold command
  split <;> exact ⟨_, rfl⟩

/-! ## The command bodies -/

theorem crcCfgBody_ok {s t : State} (h : crcCfgBody s = .ok t) :
    s.cfgv = true ∧ t = { s with crc := compute s.cfg.toList } := by
  unfold crcCfgBody at h
  split at h
  · next hv => exact ⟨hv, by cases h; rfl⟩
  · cases h

theorem foldBody_ok {s t : State} (h : foldBody s = .ok t) :
    s.serlen.toNat ≤ 9 ∧ t = { s with cfg := foldSerial s.tpl (serial s), cfgv := true } := by
  unfold foldBody at h
  split at h
  · cases h
  · next hn => exact ⟨by simpa [Config.serMax] using hn, by cases h; rfl⟩

theorem encodeBody_ok {s t : State} (h : encodeBody s = .ok t) :
    admitBasic s.arg s.plen = true ∧ t = s.framed (basicFrame s.arg (payload s)) (s.plen + 2) false := by
  unfold encodeBody at h
  split at h
  · next ha => exact ⟨ha, by cases h; rfl⟩
  · cases h

theorem encodeExtBody_ok {s t : State} (h : encodeExtBody s = .ok t) :
    admitExt s.arg s.plen = true ∧ t = s.framed (extFrame s.arg s.plen (payload s)) (s.plen + 8) true := by
  unfold encodeExtBody at h
  split at h
  · next ha => exact ⟨ha, by cases h; rfl⟩
  · cases h

/-- A successful DECODE took one of the four branches of 42_codec.md R110. -/
theorem decodeBody_ok {s t : State} (h : decodeBody s = .ok t) :
    s.txv = true ∧ s.txext = false ∧ s.rxlen.toNat = 64 ∧
      ((cls (sentOpcode s) = .serial ∧ bufGet s.rx 0 = sentOpcode s ∧ (bufGet s.rx 1).toNat ≤ 9 ∧
          t = (s.serialReceived (bufGet s.rx 1)).received 2 (bufGet s.rx 1)) ∨
        (cls (sentOpcode s) = .status ∧ bufGet s.rx 0 = sentOpcode s ∧ bufGet s.rx 1 = 0x01 ∧ t = s.received 2 62) ∨
        (cls (sentOpcode s) = .query ∧ bufGet s.rx 0 = sentOpcode s ∧
          t = ({ s with configured := bufGet s.rx 1 == Config.success } : State).received 2 62) ∨
        (cls (sentOpcode s) = .raw ∧ t = s.received 0 64)) := by
  unfold decodeBody Config.frameSize at h
  split at h
  · cases h
  next hv =>
  split at h
  · cases h
  next hx =>
  split at h
  · cases h
  next hc =>
  split at h
  · cases h
  next hlo =>
  split at h
  · cases h
  next hhi =>
  refine ⟨by simpa using hv, by simpa using hx, by omega, ?_⟩
  split at h
  · next hk =>
    unfold decodeSerial Config.serMax at h
    split at h
    · cases h
    split at h
    · cases h
    next he hn => exact .inl ⟨hk, by simpa using he, by omega, by cases h; rfl⟩
  · next hk =>
    unfold decodeStatus Config.success at h
    split at h
    · cases h
    split at h
    · cases h
    next he hn => exact .inr (.inl ⟨hk, by simpa using he, by simpa using hn, by cases h; rfl⟩)
  · next hk =>
    unfold decodeQuery at h
    split at h
    · cases h
    next he => exact .inr (.inr (.inl ⟨hk, by simpa using he, by cases h; rfl⟩))
  · next hk => exact .inr (.inr (.inr ⟨hk, by cases h; rfl⟩))
  · cases h

/-! ## The implicit operands, seen by a command (30_encoding.md R70) -/

@[simp] theorem sentOpcode_recorded (s : State) (c : Byte) : sentOpcode (s.recorded c) = sentOpcode s := rfl

@[simp] theorem sentOpcode_withArg (s : State) (a : Byte) : sentOpcode (s.withArg a) = sentOpcode s := rfl

@[simp] theorem payload_recorded (s : State) (c : Byte) : payload (s.recorded c) = payload s := rfl

@[simp] theorem payload_withArg (s : State) (a : Byte) : payload (s.withArg a) = payload s := rfl

@[simp] theorem serial_recorded (s : State) (c : Byte) : serial (s.recorded c) = serial s := rfl

@[simp] theorem serial_withArg (s : State) (a : Byte) : serial (s.withArg a) = serial s := rfl

/-! ## Admission -/

theorem admitBasic_le {op n : Byte} (h : admitBasic op n = true) : n.toNat ≤ 61 := by
  unfold admitBasic Config.payloadMax at h
  split at h <;> simp at h <;> simp_all

theorem admitExt_le {op n : Byte} (h : admitExt op n = true) : n.toNat ≤ 56 := by
  unfold admitExt Config.extPayloadMax at h
  split at h <;> simp at h <;> first | omega | simp_all

theorem payload_length (s : State) : (payload s).length = min s.plen.toNat 61 := bufTake_length _ _

theorem serial_length (s : State) : (serial s).length = min s.serlen.toNat 9 := bufTake_length _ _

/-! ## The address map (20_memory.md R50) -/

theorem itemAt_ofNat {n : Nat} (h : n < 1024) :
    itemAt (BitVec.ofNat 10 n) =
      if n < 0x040 then registerAt n
      else if n < 0x080 then .tx (n - 0x040)
      else if n < 0x0BD then .pl (n - 0x080)
      else if n < 0x0C0 then .reserved
      else if n < 0x100 then .rx (n - 0x0C0)
      else if n < 0x180 then .tpl (n - 0x100)
      else if n < 0x200 then .cfg (n - 0x180)
      else if n < 0x220 then .key (n - 0x200)
      else if n < 0x244 then .mask (n - 0x220)
      else if n < 0x24D then .ser (n - 0x244)
      else .reserved := by
  simp [itemAt, Nat.mod_eq_of_lt h]

theorem itemAt_tx {i : Nat} (h : i < 64) : itemAt (BitVec.ofNat 10 (0x040 + i)) = .tx i := by
  rw [itemAt_ofNat (by omega)]; simp (disch := omega) only [if_neg, if_pos, Nat.add_sub_cancel_left]

theorem itemAt_pl {i : Nat} (h : i < 61) : itemAt (BitVec.ofNat 10 (0x080 + i)) = .pl i := by
  rw [itemAt_ofNat (by omega)]; simp (disch := omega) only [if_neg, if_pos, Nat.add_sub_cancel_left]

theorem itemAt_rx {i : Nat} (h : i < 64) : itemAt (BitVec.ofNat 10 (0x0C0 + i)) = .rx i := by
  rw [itemAt_ofNat (by omega)]; simp (disch := omega) only [if_neg, if_pos, Nat.add_sub_cancel_left]

theorem itemAt_tpl {i : Nat} (h : i < 128) : itemAt (BitVec.ofNat 10 (0x100 + i)) = .tpl i := by
  rw [itemAt_ofNat (by omega)]; simp (disch := omega) only [if_neg, if_pos, Nat.add_sub_cancel_left]

theorem itemAt_cfg {i : Nat} (h : i < 128) : itemAt (BitVec.ofNat 10 (0x180 + i)) = .cfg i := by
  rw [itemAt_ofNat (by omega)]; simp (disch := omega) only [if_neg, if_pos, Nat.add_sub_cancel_left]

theorem itemAt_key {i : Nat} (h : i < 32) : itemAt (BitVec.ofNat 10 (0x200 + i)) = .key i := by
  rw [itemAt_ofNat (by omega)]; simp (disch := omega) only [if_neg, if_pos, Nat.add_sub_cancel_left]

theorem itemAt_mask {i : Nat} (h : i < 36) : itemAt (BitVec.ofNat 10 (0x220 + i)) = .mask i := by
  rw [itemAt_ofNat (by omega)]; simp (disch := omega) only [if_neg, if_pos, Nat.add_sub_cancel_left]

theorem itemAt_ser {i : Nat} (h : i < 9) : itemAt (BitVec.ofNat 10 (0x244 + i)) = .ser i := by
  rw [itemAt_ofNat (by omega)]; simp (disch := omega) only [if_neg, if_pos, Nat.add_sub_cancel_left]

/-! ## The address space as data -/

theorem cellAt_some {s : State} {n : Nat} {c : Host.Cell} (h : cellAt s n = some c) :
    c.1 = n ∧ c.2 = memRead (BitVec.ofNat 10 n) s ∧ c.2 ≠ Memory.unlisted := by
  unfold cellAt at h
  split at h
  · cases h
  · next hne => cases h; exact ⟨rfl, rfl, hne⟩

/-- The address space of every state, so of the state after every operation, is in canonical form. -/
theorem memoryOf_wf (s : State) : (memoryOf s).wf = true := by
  have hp : (memoryOf s).Pairwise fun x y => x.1 < y.1 := by
    refine List.Pairwise.filterMap _ ?_ List.pairwise_lt_range
    intro n m hnm c hc d hd
    rw [(cellAt_some hc).1, (cellAt_some hd).1]
    exact hnm
  have ha : ∀ c ∈ memoryOf s, c.1 < 1024 ∧ c.2 ≠ Memory.unlisted := by
    intro c hc
    obtain ⟨n, hn, hcell⟩ := List.mem_filterMap.1 hc
    obtain ⟨h1, -, h2⟩ := cellAt_some hcell
    exact ⟨by rw [h1]; exact List.mem_range.1 hn, h2⟩
  simp only [Memory.wf, Bool.and_eq_true, decide_eq_true_eq, List.all_eq_true, bne_iff_ne]
  exact ⟨hp, ha⟩

end Sys2Proof.Machine
end

