-- ==== Sys2Proof/Laws/PerInstr.lean ====
section
/-! SUPPORT. Per-instruction laws. MatchesTable: the encoding of an instruction, read as the opcode table reads it, has
the bits its row fixes and no bit above the row's width. -/

namespace Sys2Proof.Laws

/-- A row of spec/opcode_table.json: its width, how many low bits its mask leaves free, and the fixed bits above them
(the row's match without the free bits). -/
structure TableRow where
  width : Nat
  free : Nat
  fixed : Nat

/-- The row of an instruction. -/
def tableRow : Instr → TableRow
  | .nop _ => ⟨16, 8, 0x00⟩
  | .crcInit _ => ⟨16, 8, 0x01⟩
  | .crcFeed _ => ⟨16, 8, 0x02⟩
  | .crcCfg _ => ⟨16, 8, 0x03⟩
  | .crcOutA _ => ⟨16, 8, 0x04⟩
  | .crcOutB _ => ⟨16, 8, 0x05⟩
  | .fold _ => ⟨16, 8, 0x08⟩
  | .derive _ => ⟨16, 8, 0x10⟩
  | .encode _ => ⟨16, 8, 0x20⟩
  | .encodeExt _ => ⟨16, 8, 0x21⟩
  | .decode _ => ⟨16, 8, 0x28⟩
  | .clrErr _ => ⟨16, 8, 0x7E⟩
  | .rd _ _ => ⟨19, 18, 0⟩
  | .wr _ _ => ⟨19, 18, 1⟩
  | .getSerialNum => ⟨16, 0, 0x0080⟩
  | .isBuild => ⟨16, 0, 0x0081⟩
  | .isConfigured => ⟨16, 0, 0x0082⟩
  | .lock => ⟨16, 0, 0x0083⟩
  | .genkey => ⟨16, 0, 0x0084⟩
  | .loadTransKey => ⟨16, 0, 0x0085⟩
  | .loadWriteKey => ⟨16, 0, 0x0086⟩
  | .loadAttestKey => ⟨16, 0, 0x0087⟩
  | .customRng _ => ⟨64, 16, 0x00FFFFFFFF21⟩
  | .customSeed _ => ⟨64, 16, 0x00FFFFFFFF22⟩
  | .customWipe _ => ⟨64, 16, 0x00FFFFFFFF23⟩
  | .customPulse _ => ⟨64, 16, 0x00FFFFFFFF24⟩
  | .customIdleColor _ => ⟨64, 16, 0x00FFFFFFFF25⟩
  | .customIdleColorp _ => ⟨64, 16, 0x00FFFFFFFF26⟩

/-- An encoding as the number the table's bits count: a frame's bytes are read big-endian. -/
def encodedValue : Encoded → Nat
  | .cmd w => w.toNat
  | .bus w => w.toNat
  | .frame bytes => bytes.foldl (fun acc b => acc * 256 + b.toNat) 0

/-- The encoding of `i` matches its row. -/
def MatchesTable.Statement (i : Instr) : Prop :=
  encodedValue (encode i) / 2 ^ (tableRow i).free = (tableRow i).fixed ∧
    encodedValue (encode i) < 2 ^ (tableRow i).width

/-- The value of two fields side by side. -/
theorem toNat_append_fields {m n : Nat} (x : BitVec m) (y : BitVec n) :
    (x ++ y).toNat = x.toNat * 2 ^ n + y.toNat := by
  rw [BitVec.toNat_append, ← Nat.shiftLeft_add_eq_or_of_lt y.isLt, Nat.shiftLeft_eq]

/-- The CMD rows (30_encoding.md R69). -/
theorem cmdWord_value (code arg : Byte) :
    (cmdWord code arg).toNat / 2 ^ 8 = code.toNat ∧ (cmdWord code arg).toNat < 2 ^ 16 := by
  have h := toNat_append_fields code arg
  have hc := code.isLt
  have ha := arg.isLt
  unfold cmdWord
  omega

/-- The BUS rows (30_encoding.md R68). -/
theorem busWord_value (we : Bool) (addr : Addr) (wdata : Byte) :
    (busWord we addr wdata).toNat / 2 ^ 18 = we.toNat ∧ (busWord we addr wdata).toNat < 2 ^ 19 := by
  have h1 := toNat_append_fields (BitVec.ofBool we) (addr ++ wdata)
  have h2 := toNat_append_fields addr wdata
  have hw := (BitVec.ofBool we).isLt
  have hb : (BitVec.ofBool we).toNat = we.toNat := by cases we <;> rfl
  have ha := addr.isLt
  have hd := wdata.isLt
  unfold busWord
  omega

/-- The FRAME_EXT rows (30_encoding.md R75). -/
theorem extHead_value (op : Byte) (len : Half) :
    encodedValue (.frame (extHead op len)) / 2 ^ 16 = 0x00FFFFFFFF00 + op.toNat ∧
      encodedValue (.frame (extHead op len)) < 2 ^ 64 := by
  have ho := op.isLt
  have h1 := (len.extractLsb' 8 8).isLt
  have h2 := (len.extractLsb' 0 8).isLt
  simp only [encodedValue, extHead, List.foldl, BitVec.reduceToNat]
  omega

theorem MatchesTable.nop (arg : Byte) : Statement (.nop arg) := cmdWord_value _ arg

theorem MatchesTable.crcInit (arg : Byte) : Statement (.crcInit arg) := cmdWord_value _ arg

theorem MatchesTable.crcFeed (arg : Byte) : Statement (.crcFeed arg) := cmdWord_value _ arg

theorem MatchesTable.crcCfg (arg : Byte) : Statement (.crcCfg arg) := cmdWord_value _ arg

theorem MatchesTable.crcOutA (arg : Byte) : Statement (.crcOutA arg) := cmdWord_value _ arg

theorem MatchesTable.crcOutB (arg : Byte) : Statement (.crcOutB arg) := cmdWord_value _ arg

theorem MatchesTable.fold (arg : Byte) : Statement (.fold arg) := cmdWord_value _ arg

theorem MatchesTable.derive (arg : Byte) : Statement (.derive arg) := cmdWord_value _ arg

theorem MatchesTable.encode (arg : Byte) : Statement (.encode arg) := cmdWord_value _ arg

theorem MatchesTable.encodeExt (arg : Byte) : Statement (.encodeExt arg) := cmdWord_value _ arg

theorem MatchesTable.decode (arg : Byte) : Statement (.decode arg) := cmdWord_value _ arg

theorem MatchesTable.clrErr (arg : Byte) : Statement (.clrErr arg) := cmdWord_value _ arg

theorem MatchesTable.rd (addr : Addr) (wdata : Byte) : Statement (.rd addr wdata) :=
  busWord_value false addr wdata

theorem MatchesTable.wr (addr : Addr) (wdata : Byte) : Statement (.wr addr wdata) :=
  busWord_value true addr wdata

theorem MatchesTable.getSerialNum : Statement .getSerialNum := ⟨by decide, by decide⟩

theorem MatchesTable.isBuild : Statement .isBuild := ⟨by decide, by decide⟩

theorem MatchesTable.isConfigured : Statement .isConfigured := ⟨by decide, by decide⟩

theorem MatchesTable.lock : Statement .lock := ⟨by decide, by decide⟩

theorem MatchesTable.genkey : Statement .genkey := ⟨by decide, by decide⟩

theorem MatchesTable.loadTransKey : Statement .loadTransKey := ⟨by decide, by decide⟩

theorem MatchesTable.loadWriteKey : Statement .loadWriteKey := ⟨by decide, by decide⟩

theorem MatchesTable.loadAttestKey : Statement .loadAttestKey := ⟨by decide, by decide⟩

theorem MatchesTable.customRng (len : Half) : Statement (.customRng len) := extHead_value _ len

theorem MatchesTable.customSeed (len : Half) : Statement (.customSeed len) := extHead_value _ len

theorem MatchesTable.customWipe (len : Half) : Statement (.customWipe len) := extHead_value _ len

theorem MatchesTable.customPulse (len : Half) : Statement (.customPulse len) := extHead_value _ len

theorem MatchesTable.customIdleColor (len : Half) : Statement (.customIdleColor len) := extHead_value _ len

theorem MatchesTable.customIdleColorp (len : Half) : Statement (.customIdleColorp len) := extHead_value _ len

end Sys2Proof.Laws
end

