-- ==== Sys2Proof/Laws/Sha256.lean ====
section
/-! SUPPORT. The lengths of SHA-256 digests and of the key-derivation input (41_key_derivation.md R98, R103). -/

namespace Sys2Proof.Machine

@[simp] theorem be32_length (w : Word) : (be32 w).length = 4 := rfl

@[simp] theorem shaDigest_length (x : Hash) : (shaDigest x).length = 32 := rfl

@[simp] theorem sha256_length (m : List Byte) : (sha256 m).length = 32 := rfl

@[simp] theorem maskBytes_length (m : List Byte) : (maskBytes m).length = 36 := rfl

@[simp] theorem kdInput_length (suffix : Buf 7) (key : Buf 32) : (kdInput suffix key).length = 96 := by
  simp [kdInput, Config.kdZeroPad]

end Sys2Proof.Machine
end

