-- ==== Sys2Proof/Tests/Slice0.lean ====
section
/-! SUPPORT. The model's own tests: the well-formedness smoke tests, the decoding of words written out from the spec's
encodings, the vectors of 95_test_vectors.md (one step each, from the test state of its conventions), and for every
statement with hypotheses a witness that meets them. -/

namespace Sys2Proof.Tests

open Sys2Proof.Machine

/-! ## Helpers -/

/-- The reset state with the all-zero test template of 95_test_vectors.md. -/
def base : State := { State.reset with tpl := bufZero 128 }

/-- Whether an instruction answers a next state of which `p` holds. -/
def after (i : Instr) (s : State) (p : State → Bool) : Bool :=
  match exec i s with
  | .next t => p t
  | _ => false

/-- A state that holds the basic request of an opcode and a response. -/
def asked (op : Byte) (response : List Byte) (len : Byte) : State :=
  { base with tx := bufOfList 64 [0x00, op], txv := true, rx := bufOfList 64 response, rxlen := len }

/-- A state with a staged payload. -/
def staged (p : List Byte) (n : Byte) : State := { base with pl := bufOfList 61 p, plen := n }

/-- A state with a serial. -/
def withSerial (l : List Byte) (n : Byte) : State := { base with ser := bufOfList 9 l, serlen := n }

/-- A state with a valid fold of zeros. -/
def folded : State := { base with cfgv := true }

/-! ## Well-formedness: what the check refuses (30_encoding.md R68, R77) -/

theorem test_wf_read_with_wdata : WellFormed (.rd 0x006 0x01) = false := by decide
theorem test_wf_rng_len : WellFormed (.customRng 1) = false := by decide
theorem test_wf_seed_len : WellFormed (.customSeed 21) = false ∧ WellFormed (.customSeed 20) = true := by decide
theorem test_wf_wipe_len : WellFormed (.customWipe 256) = false := by decide
theorem test_wf_pulse_len : WellFormed (.customPulse 0x0200) = false ∧ WellFormed (.customPulse 2) = true := by decide
theorem test_wf_color_len : WellFormed (.customIdleColor 3) = false := by decide
theorem test_wf_colorp_len : WellFormed (.customIdleColorp 3) = false ∧ WellFormed (.customIdleColorp 4) = true := by
  decide

/-! ## Decoding: every constructor, from a word written out from 30_encoding.md R68, R69, R71, R74, R75 and R77 -/

theorem test_decode_nop : decode (.cmd 0b0000000010100101) = .ok (.nop 0xA5) := by decide
theorem test_decode_crc_init : decode (.cmd 0b0000000100000000) = .ok (.crcInit 0x00) := by decide
theorem test_decode_crc_feed : decode (.cmd 0b0000001000110001) = .ok (.crcFeed 0x31) := by decide
theorem test_decode_crc_cfg : decode (.cmd 0b0000001111111111) = .ok (.crcCfg 0xFF) := by decide
theorem test_decode_crc_out_a : decode (.cmd 0b0000010000000000) = .ok (.crcOutA 0x00) := by decide
theorem test_decode_crc_out_b : decode (.cmd 0b0000010100000001) = .ok (.crcOutB 0x01) := by decide
theorem test_decode_fold : decode (.cmd 0b0000100000000000) = .ok (.fold 0x00) := by decide
theorem test_decode_derive : decode (.cmd 0b0001000011111111) = .ok (.derive 0xFF) := by decide
theorem test_decode_encode : decode (.cmd 0b0010000010000011) = .ok (.encode 0x83) := by decide
theorem test_decode_encode_ext : decode (.cmd 0b0010000100100100) = .ok (.encodeExt 0x24) := by decide
theorem test_decode_decode : decode (.cmd 0b0010100000000000) = .ok (.decode 0x00) := by decide
theorem test_decode_clr_err : decode (.cmd 0b0111111000000000) = .ok (.clrErr 0x00) := by decide
theorem test_decode_reserved : decode (.cmd 0x0600) = .error (.reservedCommand 0x06) := by decide
theorem test_decode_read : decode (.bus 0b0000000011000000000) = .ok (.rd 0x006 0x00) := by decide
theorem test_decode_write : decode (.bus 0b1100100010000000001) = .ok (.wr 0x244 0x01) := by decide
theorem test_decode_get_serial_num : decode (.frame [0x00, 0x80]) = .ok .getSerialNum := by decide
theorem test_decode_is_build : decode (.frame [0x00, 0x81]) = .ok .isBuild := by decide
theorem test_decode_is_configured : decode (.frame [0x00, 0x82]) = .ok .isConfigured := by decide
theorem test_decode_lock : decode (.frame [0x00, 0x83, 0xAD, 0xA2]) = .ok .lock := by decide
theorem test_decode_genkey : decode (.frame [0x00, 0x84]) = .ok .genkey := by decide
theorem test_decode_load_trans_key : decode (.frame [0x00, 0x85]) = .ok .loadTransKey := by decide
theorem test_decode_load_write_key : decode (.frame [0x00, 0x86]) = .ok .loadWriteKey := by decide
theorem test_decode_load_attest_key : decode (.frame [0x00, 0x87]) = .ok .loadAttestKey := by decide
theorem test_decode_custom_rng : decodeTableWord 64 0x00FFFFFFFF210000 = some (.customRng 0) := by decide
theorem test_decode_custom_seed : decodeTableWord 64 0x00FFFFFFFF220014 = some (.customSeed 20) := by decide
theorem test_decode_custom_wipe : decodeTableWord 64 0x00FFFFFFFF230000 = some (.customWipe 0) := by decide
theorem test_decode_custom_pulse :
    decode (.frame [0x00, 0xFF, 0xFF, 0xFF, 0xFF, 0x24, 0x01, 0x02, 0xF4]) = .ok (.customPulse 0x0102) := by decide
theorem test_decode_custom_idle_color : decodeTableWord 64 0x00FFFFFFFF250004 = some (.customIdleColor 4) := by decide
theorem test_decode_custom_idle_colorp : decodeTableWord 64 0x00FFFFFFFF26FFFF = some (.customIdleColorp 0xFFFF) := by
  decide
theorem test_decode_short_frame : (decode (.frame [0x00, 0xFF, 0xFF, 0xFF, 0xFF, 0x24, 0x00])).toOption = none := by
  decide
theorem test_table_word_bus : decodeTableWord 24 0x64401 = some (.wr 0x244 0x01) := by decide
theorem test_table_word_frame_over_nop :
    decodeTableWord 16 0x0083 = some .lock ∧ decodeTableWord 16 0x0088 = some (.nop 0x88) := by decide

/-! ## The vectors of 95_test_vectors.md -/

/-- V-CTL-1. -/
theorem test_nop : after (.nop 0x00) { base with err := 7, errAcc := 0x40, lastCmd := 0xFF } (fun t =>
    t.err == 0 && t.errAcc == 0x40 && t.lastCmd == 0x00) = true := by decide

/-- V-CTL-2. -/
theorem test_clr_err : after (.clrErr 0x00) { base with errAcc := 0x48 } (fun t => t.errAcc == 0 && t.err == 0) = true := by
  decide

/-- V-CRC-20. -/
theorem test_crc_init : after (.crcInit 0x5A) { base with crc := 0xBB3D, arg := 0x11 } (fun t =>
    t.crc == 0x0000 && t.arg == 0x11) = true := by decide

/-- V-CRC-17, rows 1 and 5. -/
theorem test_crc_feed : after (.crcFeed 0x00) { base with crc := 0xFFFF } (fun t => t.crc == 0x40BF) = true := by
  decide +kernel
theorem test_crc_feed_low_byte : after (.crcFeed 0x34) { base with crc := 0x1234 } (fun t => t.crc == 0x0012) = true := by
  decide +kernel

/-- V-CRC-7. -/
theorem test_crc_check_value : compute [0x31, 0x32, 0x33, 0x34, 0x35, 0x36, 0x37, 0x38, 0x39] = 0xBB3D := by decide +kernel

/-- V-CRC-8 and V-CRC-12: 01 02 03 gives 0xA110, and 125 zeros after it, taken in five pieces, give 0xADA2. -/
theorem test_crc_of_folded_buffer :
    compute [0x01, 0x02, 0x03] = 0xA110 ∧
      (List.replicate 25 0x00).foldl crcFeed 0xA110 = 0x85F7 ∧
      (List.replicate 25 0x00).foldl crcFeed 0x85F7 = 0x00E4 ∧
      (List.replicate 25 0x00).foldl crcFeed 0x00E4 = 0x7007 ∧
      (List.replicate 25 0x00).foldl crcFeed 0x7007 = 0x47CC ∧
      (List.replicate 25 0x00).foldl crcFeed 0x47CC = 0xADA2 := by decide +kernel

/-- V-CRC-23 and V-CRC-22. -/
theorem test_crc_cfg : after (.crcCfg 0x00) folded (fun t => t.err == 0 && t.lastCmd == 0x03) = true := by decide
theorem test_crc_cfg_not_ready : after (.crcCfg 0x00) { base with crc := 0xC0C1 } (fun t =>
    t.crc == 0xC0C1 && t.err == 6 && t.errAcc == 0x20) = true := by decide

/-- V-CRC-25 and V-CRC-7. -/
theorem test_crc_out_a : after (.crcOutA 0x00) { base with crc := 0xC0C1 } (fun t =>
    t.out0 == 0xC0 && t.out1 == 0xC1 && t.crc == 0xC0C1) = true := by decide
theorem test_crc_out_b : after (.crcOutB 0x00) { base with crc := 0xC0C1 } (fun t =>
    t.out0 == 0x83 && t.out1 == 0x03 && t.crc == 0xC0C1) = true := by decide
theorem test_bitrev : bitrev16 0x1234 = 0x2C48 ∧ bitrev16 0xBB3D = 0xBCDD := by decide

/-- V-FOLD-1 and V-FOLD-5. -/
theorem test_fold : after (.fold 0x00) (withSerial [1, 2, 3, 4] 3) (fun t =>
    t.cfg == bufOfList 128 [1, 2, 3] && t.cfgv && t.err == 0) = true := by decide +kernel
theorem test_fold_range : after (.fold 0x00) (withSerial [] 10) (fun t =>
    t.err == 5 && t.errAcc == 0x10 && !t.cfgv) = true := by decide

/-- V-SHA-1 (the padding of an empty message). -/
theorem test_sha_empty : (sha256 []).take 4 = [0xE3, 0xB0, 0xC4, 0x42] := by decide +kernel

/-- V-KD-4: two blocks, then the chained hash. -/
theorem test_derive_mask : (deriveMask (bufZero 7) (bufOfList 32 [0x01])).toList =
    [0x50, 0x8E, 0xB4, 0x81, 0x86, 0x52, 0x12, 0x68, 0xE4, 0x7B, 0xF8, 0xF5, 0x8F, 0xB9, 0xA7, 0x34,
     0x34, 0x31, 0xB9, 0xBF, 0x0C, 0x9C, 0x85, 0xE2, 0x00, 0xAC, 0xD9, 0xC6, 0x12, 0xFB, 0xE3, 0xA9,
     0x41, 0xAC, 0xE2, 0xB4] := by decide +kernel

/-- V-KD-11, the fields that rest on no free value. -/
theorem test_derive : after (.derive 0xFF) { base with arg := 0x12 } (fun t =>
    t.maskv && t.err == 0 && t.arg == 0x12 && statusByte t == 0x02) = true := by decide

/-- V-ENC-2 and V-ENC-3. -/
theorem test_encode : after (.encode 0x83) (staged [0xBB, 0x3D, 0x77] 2) (fun t =>
    t.tx == bufOfList 64 [0x00, 0x83, 0xBB, 0x3D] && t.txlen == 4 && statusByte t == 0x04) = true := by decide +kernel
theorem test_encode_len : after (.encode 0x83) { staged [] 3 with tx := bufOfList 64 [0x00, 0x81], txlen := 2 } (fun t =>
    t.err == 4 && t.errAcc == 0x08 && t.tx == bufOfList 64 [0x00, 0x81] && t.txlen == 2) = true := by decide +kernel

/-- V-ENCX-1 and V-ENCX-5. -/
theorem test_encode_ext : after (.encodeExt 0x24) (staged [0x01, 0xF4] 2) (fun t =>
    t.tx == bufOfList 64 [0x00, 0xFF, 0xFF, 0xFF, 0xFF, 0x24, 0x00, 0x02, 0x01, 0xF4] && t.txlen == 10
      && statusByte t == 0x0C) = true := by decide +kernel
theorem test_encode_ext_core : after (.encodeExt 0x83) (staged [] 2) (fun t => t.err == 4 && !t.txv) = true := by decide

/-- V-DEC-11 and V-DEC-10. -/
theorem test_decode_serial : after (.decode 0x00) (asked 0x80 [0x80, 0x03, 0x01, 0x02, 0x03, 0xEE] 64) (fun t =>
    t.ser == bufOfList 9 [1, 2, 3] && t.serlen == 3 && t.rxPlen == 3 && t.rxPoff == 2 && !t.cfgv) = true := by
  decide +kernel
theorem test_decode_echo_first : after (.decode 0x00) (asked 0x83 [0x80, 0x00] 64) (fun t =>
    t.err == 2 && t.errAcc == 0x02 && t.rxEcho == 0x00) = true := by decide +kernel

/-- 20_memory.md R59 with V-CRC-25: the high byte of CRC is at the lower address. -/
theorem test_read : after (.rd 0x006 0x00) { base with crc := 0xC0C1 } (fun t => t.rdata == 0xC0) = true := by decide
theorem test_read_low : after (.rd 0x007 0x00) { base with crc := 0xC0C1 } (fun t => t.rdata == 0xC1) = true := by decide

/-- V-FOLD-7. -/
theorem test_write_serial : after (.wr 0x245 0x02) { folded with ser := bufOfList 9 [1, 2, 3] } (fun t =>
    !t.cfgv && t.ser == bufOfList 9 [1, 2, 3]) = true := by decide +kernel

/-- V-BUS-4: a CMD write takes ARG as it stands. -/
theorem test_arg_persists : after (.wr 0x000 0x02) { base with arg := 0x37 } (fun t => t.crc == 0xD641) = true := by
  decide +kernel

/-- The frames of 30_encoding.md R77, one step each: the two first bytes of TX, or its opcode and length. -/
theorem test_get_serial_num : after .getSerialNum base (fun t => bufGet t.tx 1 == 0x80 && t.txlen == 2) = true := by decide
theorem test_is_build : after .isBuild base (fun t => bufGet t.tx 1 == 0x81 && t.txlen == 2) = true := by decide
theorem test_is_configured : after .isConfigured base (fun t => bufGet t.tx 1 == 0x82 && t.txlen == 2) = true := by decide
theorem test_lock : after .lock (staged [0xAD, 0xA2] 2) (fun t =>
    t.tx == bufOfList 64 [0x00, 0x83, 0xAD, 0xA2] && t.txlen == 4) = true := by decide +kernel
theorem test_genkey : after .genkey base (fun t => bufGet t.tx 1 == 0x84 && t.txlen == 2) = true := by decide
theorem test_load_trans_key : after .loadTransKey (staged [] 32) (fun t => bufGet t.tx 1 == 0x85 && t.txlen == 34) = true := by
  decide
theorem test_load_write_key : after .loadWriteKey (staged [] 32) (fun t => t.err == 4 && !t.txv) = true := by decide
theorem test_load_attest_key : after .loadAttestKey (staged [] 32) (fun t => bufGet t.tx 1 == 0x87 && t.err == 0) = true := by
  decide
theorem test_custom_rng : after (.customRng 0) base (fun t => bufGet t.tx 5 == 0x21 && t.txlen == 8) = true := by decide
theorem test_custom_seed : after (.customSeed 21) base (fun t => t.err == 4 && !t.txv) = true := by decide
theorem test_custom_wipe : after (.customWipe 0x0100) base (fun t => t.err == 4 && t.plen == 0) = true := by decide
theorem test_custom_pulse : after (.customPulse 2) (staged [0x01, 0xF4] 0) (fun t =>
    t.txlen == 10 && bufGet t.tx 9 == 0xF4 && t.plen == 2) = true := by decide
theorem test_custom_idle_color : after (.customIdleColor 4) base (fun t => t.txlen == 12 && t.txext) = true := by decide
theorem test_custom_idle_colorp : after (.customIdleColorp 3) base (fun t => t.err == 4) = true := by decide

/-- A placed word is the next step's: V-ENC-1 through withFetchWord, and V-BUS-1 for ID. -/
theorem test_step_runs_placed_frame : (match step (base.withFetchWord 16 0x0081) with
    | .next t => t.tx == bufOfList 64 [0x00, 0x81] && t.pending == []
    | _ => false) = true := by decide +kernel
theorem test_step_runs_placed_read : (match step (base.withFetchWord 24 0x00500) with
    | .next t => t.rdata == 0x01
    | _ => false) = true := by decide

/-! ## Witnesses: the hypotheses of each statement hold of something, each clause at the edge of its range -/

theorem witness_ReservedCodesRaiseBadCmd : ∀ v ∈ ([0x06, 0x7F, 0xFF] : List Byte),
    v ∉ ([0x00, 0x01, 0x02, 0x03, 0x04, 0x05, 0x08, 0x10, 0x20, 0x21, 0x28, 0x7E] : List Byte) := by decide

theorem witness_CmdWriteRunsTheCommandWord : decode (.cmd ((0x7E : Byte) ++ base.arg)) = .ok (.clrErr 0x00) := by decide

theorem witness_CrcCfgChecksumsAValidFold : folded.cfgv = true ∧ base.cfgv = false := by decide

theorem witness_CrcOutBGivesTheReversedBytes : ∀ i ∈ [0, 7], i < 8 := by decide

theorem witness_FoldOverwritesTheSerialBytes :
    (withSerial [] 9).serlen.toNat ≤ 9 ∧ 9 < (withSerial [] 10).serlen.toNat ∧ 0 < 128 ∧ 127 < 128 := by decide

theorem witness_BitReversalMirrorsAllSixteenBits : ∀ i ∈ [0, 15], i < 16 := by decide

theorem witness_FeedingCfgRefinesCrcCfg : folded.cfgv = true := by decide

theorem witness_ShaScheduleFollowsItsRecurrence :
    (List.replicate 64 (0x01 : Byte)).length = 64 ∧ 15 < 16 ∧ (16 ≤ 16 ∧ 16 < 64) ∧ (16 ≤ 63 ∧ 63 < 64) := by decide

theorem witness_EncodeBuildsTheBasicFrame :
    admitBasic 0x83 (staged [] 2).plen = true ∧ admitBasic 0x42 (staged [] 61).plen = true ∧
      60 < (staged [] 61).plen.toNat ∧ admitBasic 0x42 (staged [] 62).plen = false := by decide

theorem witness_EncodeExtBuildsTheExtendedFrame :
    admitExt 0x22 (staged [] 20).plen = true ∧ admitExt 0x40 (staged [] 56).plen = true ∧
      55 < (staged [] 56).plen.toNat ∧ admitExt 0x40 (staged [] 57).plen = false := by decide

theorem witness_DecodeReports_not_ready : base.txv = false := by decide

theorem witness_DecodeReports_extended :
    ({ base with txv := true, txext := true } : State).txv = true ∧
      ({ base with txv := true, txext := true } : State).txext = true := by decide

theorem witness_DecodeReports_no_class : ∀ op ∈ ([0x7F, 0x88] : List Byte),
    (asked op [] 0).txv = true ∧ (asked op [] 0).txext = false ∧ cls (bufGet (asked op [] 0).tx 1) = .none := by decide

theorem witness_DecodeReports_short : (asked 0x87 [] 63).txv = true ∧ (asked 0x87 [] 63).txext = false ∧
    cls (bufGet (asked 0x87 [] 63).tx 1) ≠ .none ∧ (asked 0x87 [] 63).rxlen.toNat < 64 := by decide

theorem witness_DecodeReports_long : (asked 0x80 [] 65).txv = true ∧ (asked 0x80 [] 65).txext = false ∧
    cls (bufGet (asked 0x80 [] 65).tx 1) ≠ .none ∧ 64 < (asked 0x80 [] 65).rxlen.toNat := by decide

theorem witness_DecodeReports_echo : ∀ op ∈ ([0x80, 0x81, 0x82] : List Byte),
    (asked op [0x7F] 64).txv = true ∧ (asked op [0x7F] 64).txext = false ∧
      cls (bufGet (asked op [0x7F] 64).tx 1) ∈ [ResponseClass.serial, .status, .query] ∧ (asked op [0x7F] 64).rxlen = 64 ∧
      bufGet (asked op [0x7F] 64).rx 0 ≠ bufGet (asked op [0x7F] 64).tx 1 := by decide

theorem witness_DecodeReports_serial_length : (asked 0x80 [0x80, 0x0A] 64).txv = true ∧
    (asked 0x80 [0x80, 0x0A] 64).txext = false ∧ cls (bufGet (asked 0x80 [0x80, 0x0A] 64).tx 1) = .serial ∧
    (asked 0x80 [0x80, 0x0A] 64).rxlen = 64 ∧
    bufGet (asked 0x80 [0x80, 0x0A] 64).rx 0 = bufGet (asked 0x80 [0x80, 0x0A] 64).tx 1 ∧
    9 < (bufGet (asked 0x80 [0x80, 0x0A] 64).rx 1).toNat := by decide

theorem witness_DecodeReports_status : ∀ x ∈ ([0x00, 0x02] : List Byte),
    (asked 0x87 [0x87, x] 64).txv = true ∧ (asked 0x87 [0x87, x] 64).txext = false ∧
      cls (bufGet (asked 0x87 [0x87, x] 64).tx 1) = .status ∧ (asked 0x87 [0x87, x] 64).rxlen = 64 ∧
      bufGet (asked 0x87 [0x87, x] 64).rx 0 = bufGet (asked 0x87 [0x87, x] 64).tx 1 ∧
      bufGet (asked 0x87 [0x87, x] 64).rx 1 ≠ 0x01 := by decide

theorem witness_DecodeAcceptsASerial : ∀ n ∈ ([0x00, 0x09] : List Byte),
    (asked 0x80 [0x80, n] 64).txv = true ∧ (asked 0x80 [0x80, n] 64).txext = false ∧
      bufGet (asked 0x80 [0x80, n] 64).tx 1 = 0x80 ∧ (asked 0x80 [0x80, n] 64).rxlen = 64 ∧
      bufGet (asked 0x80 [0x80, n] 64).rx 0 = 0x80 ∧ (bufGet (asked 0x80 [0x80, n] 64).rx 1).toNat ≤ 9 := by decide

theorem witness_DecodeAcceptsASuccessStatus : ∀ op ∈ ([0x81, 0x83, 0x85, 0x86, 0x87] : List Byte),
    (asked op [op, 0x01] 64).txv = true ∧ (asked op [op, 0x01] 64).txext = false ∧
      bufGet (asked op [op, 0x01] 64).tx 1 = op ∧ (asked op [op, 0x01] 64).rxlen = 64 ∧
      bufGet (asked op [op, 0x01] 64).rx 0 = op ∧ bufGet (asked op [op, 0x01] 64).rx 1 = 0x01 := by decide

theorem witness_DecodeAnswersTheQuery : ∀ x ∈ ([0x00, 0x01] : List Byte),
    (asked 0x82 [0x82, x] 64).txv = true ∧ (asked 0x82 [0x82, x] 64).txext = false ∧
      bufGet (asked 0x82 [0x82, x] 64).tx 1 = 0x82 ∧ (asked 0x82 [0x82, x] 64).rxlen = 64 ∧
      bufGet (asked 0x82 [0x82, x] 64).rx 0 = 0x82 := by decide

theorem witness_DecodeAcceptsAnyKeyMaterial : (asked 0x84 [0xC0, 0xC1] 64).txv = true ∧
    (asked 0x84 [0xC0, 0xC1] 64).txext = false ∧ bufGet (asked 0x84 [0xC0, 0xC1] 64).tx 1 = 0x84 ∧
    (asked 0x84 [0xC0, 0xC1] 64).rxlen = 64 := by decide

theorem witness_BasicRequestsBuildTheirFrames : (staged [] 36).plen = 36 ∧
    ((.loadWriteKey, 0x86, 36) : Instr × Byte × Byte) ∈ ([(.getSerialNum, 0x80, 0), (.isBuild, 0x81, 0),
      (.isConfigured, 0x82, 0), (.lock, 0x83, 2), (.genkey, 0x84, 0), (.loadTransKey, 0x85, 32),
      (.loadWriteKey, 0x86, 36), (.loadAttestKey, 0x87, 32)] : List (Instr × Byte × Byte)) := by decide

theorem witness_ExtendedRequestsBuildTheirFrames :
    WellFormed (.customRng ((0 : Byte).setWidth 16)) = true ∧ WellFormed (.customSeed ((20 : Byte).setWidth 16)) = true ∧
      WellFormed (.customWipe ((0 : Byte).setWidth 16)) = true ∧
      WellFormed (.customPulse ((2 : Byte).setWidth 16)) = true ∧
      WellFormed (.customIdleColor ((4 : Byte).setWidth 16)) = true ∧
      WellFormed (.customIdleColorp ((4 : Byte).setWidth 16)) = true := by decide

theorem witness_RequestsOfOtherLengthsRaiseLen : (staged [] 1).plen ≠ 0 ∧ (staged [] 3).plen ≠ 2 ∧
    WellFormed (.customSeed 21) = false ∧ WellFormed (.customSeed 256) = false := by decide

theorem witness_MemReadFollowsTheMap :
    (∀ a ∈ ([0x040, 0x07F] : List Addr), 0x040 ≤ a.toNat ∧ a.toNat ≤ 0x07F) ∧
    (∀ a ∈ ([0x080, 0x0BC] : List Addr), 0x080 ≤ a.toNat ∧ a.toNat ≤ 0x0BC) ∧
    (∀ a ∈ ([0x0C0, 0x0FF] : List Addr), 0x0C0 ≤ a.toNat ∧ a.toNat ≤ 0x0FF) ∧
    (∀ a ∈ ([0x100, 0x17F] : List Addr), 0x100 ≤ a.toNat ∧ a.toNat ≤ 0x17F) ∧
    (∀ a ∈ ([0x180, 0x1FF] : List Addr), 0x180 ≤ a.toNat ∧ a.toNat ≤ 0x1FF) ∧
    (∀ a ∈ ([0x200, 0x21F] : List Addr), 0x200 ≤ a.toNat ∧ a.toNat ≤ 0x21F) ∧
    (∀ a ∈ ([0x220, 0x243] : List Addr), 0x220 ≤ a.toNat ∧ a.toNat ≤ 0x243) ∧
    (∀ a ∈ ([0x244, 0x24C] : List Addr), 0x244 ≤ a.toNat ∧ a.toNat ≤ 0x24C) ∧
    ∀ a ∈ ([0x012, 0x03F, 0x0BD, 0x0BF, 0x24D, 0x3FF] : List Addr),
      (0x012 ≤ a.toNat ∧ a.toNat ≤ 0x03F) ∨ (0x0BD ≤ a.toNat ∧ a.toNat ≤ 0x0BF) ∨ 0x24D ≤ a.toNat := by
  refine ⟨?_, ?_, ?_, ?_, ?_, ?_, ?_, ?_, ?_⟩ <;> decide

theorem witness_BufferWritesFollowTheMap :
    (0 < 61 ∧ 60 < 61) ∧ (0 < 64 ∧ 63 < 64) ∧ (0 < 128 ∧ 127 < 128) ∧ (0 < 32 ∧ 31 < 32) ∧ 0 < 9 ∧ 8 < 9 := by decide

theorem witness_ReadOnlyAndReservedWritesAreIgnored :
    (∀ a ∈ ([0x002, 0x010, 0x040, 0x07F, 0x180, 0x1FF, 0x220, 0x243] : List Addr),
      a.toNat ∈ [0x002, 0x003, 0x005, 0x006, 0x007, 0x008, 0x009, 0x00B, 0x00D, 0x00E, 0x00F, 0x010] ∨
        (0x040 ≤ a.toNat ∧ a.toNat ≤ 0x07F) ∨ (0x180 ≤ a.toNat ∧ a.toNat ≤ 0x1FF) ∨
        (0x220 ≤ a.toNat ∧ a.toNat ≤ 0x243)) ∧
    (∀ a ∈ ([0x012, 0x03F, 0x0BD, 0x0BF, 0x24D, 0x3FF] : List Addr),
      (0x012 ≤ a.toNat ∧ a.toNat ≤ 0x03F) ∨ (0x0BD ≤ a.toNat ∧ a.toNat ≤ 0x0BF) ∨ 0x24D ≤ a.toNat) := by decide

theorem witness_WritesReadBackAndKeepOtherBytes :
    ∀ a ∈ ([0x001, 0x011, 0x080, 0x0BC, 0x0C0, 0x17F, 0x200, 0x21F, 0x244, 0x24C] : List Addr),
      (a.toNat ∈ [0x001, 0x00A, 0x00C, 0x011] ∨ (0x080 ≤ a.toNat ∧ a.toNat ≤ 0x0BC) ∨
        (0x0C0 ≤ a.toNat ∧ a.toNat ≤ 0x17F) ∨ (0x200 ≤ a.toNat ∧ a.toNat ≤ 0x21F) ∨
        (0x244 ≤ a.toNat ∧ a.toNat ≤ 0x24C)) ∧ (0x3FF : Addr) ≠ a ∧ (0x3FF : Addr) ≠ 0x002 := by decide

theorem witness_EveryInstructionStaysInItsFootprint : ∃ t, exec (.fold 0x00) base = .next t ∧
    footprint (.fold 0x00) 0x17F = false ∧ footprint (.fold 0x00) 0x200 = false := ⟨_, rfl, by decide⟩

theorem witness_FailedCommandsArePrecise : ∃ t, exec (.wr 0x000 0xFF) base = .next t ∧ t.err ≠ 0 := ⟨_, rfl, by decide⟩

theorem witness_SuccessfulCommandsKeepTheErrorRecord :
    (∃ t, exec (.wr 0x000 0x7E) base = .next t ∧ t.err = 0) ∧ ∃ t, exec (.wr 0x000 0x01) base = .next t ∧ t.err = 0 :=
  ⟨⟨_, rfl, by decide⟩, ⟨_, rfl, by decide⟩⟩

theorem witness_Cfgv_set : ∃ t, exec (.fold 0x00) base = .next t ∧ t.err = 0 ∧ t.cfgv ≠ base.cfgv := ⟨_, rfl, by decide⟩

theorem witness_Cfgv_cleared : (∀ a ∈ ([0x011, 0x100, 0x17F, 0x244, 0x24C] : List Addr),
    a.toNat = 0x011 ∨ (0x100 ≤ a.toNat ∧ a.toNat ≤ 0x17F) ∨ (0x244 ≤ a.toNat ∧ a.toNat ≤ 0x24C)) ∧
    ∃ t, exec (.wr 0x17F 0x01) folded = .next t ∧ t.cfgv ≠ folded.cfgv := ⟨by decide, _, rfl, by decide⟩

theorem witness_Cfgv_serial : ∃ t, exec (.decode 0x00) { asked 0x80 [0x80, 0x00] 64 with cfgv := true } = .next t ∧
    t.err = 0 ∧ bufGet (asked 0x80 [0x80, 0x00] 64).tx 1 = 0x80 ∧ t.cfgv ≠ true := ⟨_, rfl, by decide⟩

theorem witness_Cfgv_not_ready : base.cfgv = false := by decide

theorem witness_Maskv : (∃ t, exec (.derive 0x00) base = .next t ∧ t.maskv ≠ base.maskv) ∧
    (∀ a ∈ ([0x200, 0x21F] : List Addr), 0x200 ≤ a.toNat ∧ a.toNat ≤ 0x21F) ∧
    (∃ t, exec (.wr 0x21F 0x01) base = .next t) ∧ (∃ t, exec (.wr 0x000 0x10) base = .next t) ∧
    ∀ a ∈ ([0x220, 0x243] : List Addr), 0x220 ≤ a.toNat ∧ a.toNat ≤ 0x243 :=
  ⟨⟨_, rfl, by decide⟩, by decide, ⟨_, rfl⟩, ⟨_, rfl⟩, by decide⟩

theorem witness_FrameStateChangesOnlyByEncoding :
    (∃ t, exec (.encode 0x81) base = .next t ∧ (t.txv, t.txext, t.txlen, t.tx) ≠ (base.txv, base.txext, base.txlen, base.tx)) ∧
    (∃ t, exec (.nop 0x00) (asked 0x81 [] 0) = .next t ∧ (asked 0x81 [] 0).txv = true) ∧
    ∃ t, exec (.decode 0x00) (asked 0x82 [0x82, 0x01] 64) = .next t ∧
      t.configured ≠ (asked 0x82 [0x82, 0x01] 64).configured :=
  ⟨⟨_, rfl, by decide⟩, ⟨_, rfl, by decide⟩, ⟨_, rfl, by decide⟩⟩

theorem witness_Results_crc : ∃ t, exec (.crcInit 0x00) { base with crc := 1 } = .next t ∧ t.crc ≠ 1 := ⟨_, rfl, by decide⟩

theorem witness_Results_out : ∃ t, exec (.crcOutA 0x00) { base with crc := 1 } = .next t ∧
    (t.out0, t.out1) ≠ (base.out0, base.out1) := ⟨_, rfl, by decide⟩

theorem witness_Results_cfg : ∃ t, exec (.fold 0x00) (withSerial [1] 1) = .next t ∧ t.cfg ≠ (withSerial [1] 1).cfg :=
  ⟨_, rfl, by decide +kernel⟩

theorem witness_Results_response : ∃ t, exec (.decode 0x00) (asked 0x81 [0x81, 0x01] 64) = .next t ∧
    (t.rxEcho, t.rxStat, t.rxPoff, t.rxPlen) ≠ (base.rxEcho, base.rxStat, base.rxPoff, base.rxPlen) := ⟨_, rfl, by decide⟩

theorem witness_CommandsNeverWriteTheirInputs : ∃ t, exec (.wr 0x000 0x20) (staged [] 0) = .next t ∧ (0x20 : Byte) ≠ 0x28 :=
  ⟨_, rfl, by decide⟩

theorem witness_AStaleFoldIsNotChecksummed : ∃ t w, exec (.wr 0x011 0x09) folded = .next t ∧
    exec (.fold 0x00) t = .next w ∧ w.err = 0 := ⟨_, _, rfl, rfl, by decide⟩

theorem witness_TheKeyReachesOnlyDerive : commandCode (.wr 0x1FF 0x10) ≠ some 0x10 ∧ (0x1FF : Addr).toNat < 0x200 ∧
    commandCode (.rd 0x220 0x00) ≠ some 0x10 ∧ 0x21F < (0x220 : Addr).toNat := by decide

theorem witness_EveryStepKeepsTheInvariant : ∃ s t, Inv s ∧ s.txv = false ∧ step s = .next t ∧ t.txv = true := by
  refine ⟨{ base with pending := [.transaction 0x40020], arg := 0x81 }, _, ?_, by decide, rfl, by decide⟩
  refine ⟨⟨by decide, by decide, by decide, by decide⟩, ?_, ?_, fun _ => ⟨rfl, rfl, rfl⟩, ?_, ?_⟩
  · intro h; cases h
  · intro h; cases h
  · intro h; cases h
  · intro h; cases h

theorem witness_AssertingResetRestoresEveryItem :
    ({ folded with pending := [.reset none] } : State).pending = .reset none :: [] ∧
      ({ folded with pending := [.reset (some 0x00500)] } : State).pending = .reset (some 0x00500) :: [] := by decide

theorem witness_AStepRunsTheNextTransaction :
    (base.issue 0x40181).pending = .transaction 0x40181 :: [] ∧ decode (.bus 0x40181) = .ok (.wr 0x001 0x81) ∧
      base.pending = [] := by decide

theorem witness_APlacedTableWordRuns : decodeTableWord 16 0x2081 = some (.encode 0x81) ∧
    decodeTableWord 16 0x0080 = some .getSerialNum ∧ decodeTableWord 24 0x7FFFF = some (.wr 0x3FF 0xFF) ∧
    decodeTableWord 64 0x00FFFFFFFF21FFFF = some (.customRng 0xFFFF) := by decide

theorem witness_EncodeInvertsDecode : decode (.cmd 0x0000) = .ok (.nop 0x00) ∧ decode (.cmd 0x7EFF) = .ok (.clrErr 0xFF) ∧
    decode (.cmd 0xFF00) = .error (.reservedCommand 0xFF) := by decide

theorem witness_ExtendedHeadersAreReadWhole :
    (∀ op ∈ ([0x21, 0x26] : List Byte), 0x21 ≤ op.toNat ∧ op.toNat ≤ 0x26) ∧
      ∀ op ∈ ([0x20, 0x27, 0x80, 0xFF] : List Byte), op.toNat < 0x21 ∨ 0x26 < op.toNat := by decide

end Sys2Proof.Tests
end

section
/-! What an instruction can do, said once: the address map read backwards, the body of a command by its code, and the
four ways in which an instruction answers a next state. -/

namespace Sys2Proof.Machine

/-! ## The address map, from an item back to its address (20_memory.md R50) -/

/-- The addresses at which the items stand. -/
def Item.standsAt : Item → Nat → Prop
  | .cmd, n => n = 0x000
  | .arg, n => n = 0x001
  | .status, n => n = 0x002
  | .err, n => n = 0x003
  | .errAcc, n => n = 0x004
  | .id, n => n = 0x005
  | .crcHi, n => n = 0x006
  | .crcLo, n => n = 0x007
  | .out0, n => n = 0x008
  | .out1, n => n = 0x009
  | .plen, n => n = 0x00A
  | .txlen, n => n = 0x00B
  | .rxlen, n => n = 0x00C
  | .rxEcho, n => n = 0x00D
  | .rxStat, n => n = 0x00E
  | .rxPoff, n => n = 0x00F
  | .rxPlen, n => n = 0x010
  | .serlen, n => n = 0x011
  | .tx i, n => i < 64 ∧ n = 0x040 + i
  | .pl i, n => i < 61 ∧ n = 0x080 + i
  | .rx i, n => i < 64 ∧ n = 0x0C0 + i
  | .tpl i, n => i < 128 ∧ n = 0x100 + i
  | .cfg i, n => i < 128 ∧ n = 0x180 + i
  | .key i, n => i < 32 ∧ n = 0x200 + i
  | .mask i, n => i < 36 ∧ n = 0x220 + i
  | .ser i, n => i < 9 ∧ n = 0x244 + i
  | .reserved, n => (0x012 ≤ n ∧ n < 0x040) ∨ (0x0BD ≤ n ∧ n < 0x0C0) ∨ 0x24D ≤ n

theorem registerAt_standsAt {n : Nat} (h : n < 0x040) : (registerAt n).standsAt n := by
  unfold registerAt
  split
  case h_19 => simp only [Item.standsAt, imp_false] at *; omega
  all_goals rfl

theorem itemAt_standsAt (a : Addr) : (itemAt a).standsAt a.toNat := by
  simp only [itemAt]
  split
  · next h => exact registerAt_standsAt h
  · repeat' split
    all_goals simp only [Item.standsAt]; omega

/-- CMD stands at 0x000 alone. -/
theorem itemAt_ne_cmd {a : Addr} (h : a ≠ 0x000) : itemAt a ≠ .cmd := by
  intro hc
  have hn : (itemAt a).standsAt a.toNat := itemAt_standsAt a
  rw [hc] at hn
  exact h (BitVec.eq_of_toNat_eq hn)

theorem itemAt_ne_id {a : Addr} (h : a ≠ 0x005) : itemAt a ≠ .id := fun hid => by
  have hn : (itemAt a).standsAt a.toNat := itemAt_standsAt a
  rw [hid] at hn
  exact h (BitVec.eq_of_toNat_eq hn)

theorem itemAt_ne_tpl {a : Addr} (h : ¬ (0x100 ≤ a.toNat ∧ a.toNat ≤ 0x17F)) (i : Nat) : itemAt a ≠ .tpl i := fun ht => by
  have hn : (itemAt a).standsAt a.toNat := itemAt_standsAt a
  rw [ht] at hn
  simp only [Item.standsAt] at hn
  omega

/-- An address within a buffer, as the buffer's base and an index. -/
theorem addr_eq_base_add {a : Addr} {base len : Nat} (hlo : base ≤ a.toNat) (hhi : a.toNat < base + len) :
    ∃ i < len, a = BitVec.ofNat 10 (base + i) ∧ a.toNat - base = i :=
  ⟨a.toNat - base, by omega, by rw [Nat.add_sub_cancel' hlo, BitVec.ofNat_toNat, BitVec.setWidth_eq], rfl⟩

theorem memRead_tpl {a : Addr} (hlo : 0x100 ≤ a.toNat) (hhi : a.toNat ≤ 0x17F) (s : State) :
    memRead a s = bufGet s.tpl (a.toNat - 0x100) := by
  obtain ⟨i, hi, rfl, hsub⟩ := addr_eq_base_add (len := 128) hlo (by omega)
  rw [hsub, memRead, itemAt_tpl hi, readItem]

theorem memRead_mask {a : Addr} (hlo : 0x220 ≤ a.toNat) (hhi : a.toNat ≤ 0x243) (s : State) :
    memRead a s = bufGet s.mask (a.toNat - 0x220) := by
  obtain ⟨i, hi, rfl, hsub⟩ := addr_eq_base_add (len := 36) hlo (by omega)
  rw [hsub, memRead, itemAt_mask hi, readItem]

/-! ## The commands, by code (30_encoding.md R67) -/

/-- The body of the command of a code: what it does to the state once LASTCMD holds the code. -/
def commandBody (c : Byte) : State → Except CmdError State :=
  match c.toNat with
  | 0x00 => .ok
  | 0x01 => crcInitBody
  | 0x02 => crcFeedBody
  | 0x03 => crcCfgBody
  | 0x04 => crcOutABody
  | 0x05 => crcOutBBody
  | 0x08 => foldBody
  | 0x10 => deriveBody
  | 0x20 => encodeBody
  | 0x21 => encodeExtBody
  | 0x28 => decodeBody
  | 0x7E => clrErrBody
  | _ => fun _ => .error .badCmd

/-- What each command leaves when it succeeds. DECODE has the four branches of 42_codec.md R110. -/
inductive CommandEffect (s : State) : Byte → State → Prop
  | nop : CommandEffect s 0x00 s
  | crcInit : CommandEffect s 0x01 { s with crc := Config.crcSeed }
  | crcFeed : CommandEffect s 0x02 { s with crc := Machine.crcFeed s.crc s.arg }
  | crcCfg (fresh : s.cfgv = true) : CommandEffect s 0x03 { s with crc := compute s.cfg.toList }
  | crcOutA : CommandEffect s 0x04 (s.withOut (outA s.crc))
  | crcOutB : CommandEffect s 0x05 (s.withOut (outB s.crc))
  | fold (fits : s.serlen.toNat ≤ 9) :
      CommandEffect s 0x08 { s with cfg := foldSerial s.tpl (serial s), cfgv := true }
  | derive : CommandEffect s 0x10 { s with mask := deriveMask Config.kdSuffix s.key, maskv := true }
  | encode (admitted : admitBasic s.arg s.plen = true) :
      CommandEffect s 0x20 (s.framed (basicFrame s.arg (payload s)) (s.plen + 2) false)
  | encodeExt (admitted : admitExt s.arg s.plen = true) :
      CommandEffect s 0x21 (s.framed (extFrame s.arg s.plen (payload s)) (s.plen + 8) true)
  | decodeSerial (op : cls (sentOpcode s) = .serial) (fits : (bufGet s.rx 1).toNat ≤ 9) :
      CommandEffect s 0x28 ((s.serialReceived (bufGet s.rx 1)).received 2 (bufGet s.rx 1))
  | decodeStatus (op : cls (sentOpcode s) = .status) : CommandEffect s 0x28 (s.received 2 62)
  | decodeQuery (op : cls (sentOpcode s) = .query) :
      CommandEffect s 0x28 (({ s with configured := bufGet s.rx 1 == Config.success } : State).received 2 62)
  | decodeRaw (op : cls (sentOpcode s) = .raw) : CommandEffect s 0x28 (s.received 0 64)
  | clrErr : CommandEffect s 0x7E { s with errAcc := 0x00 }

theorem commandEffect_of_decodeBody {s u : State} (h : decodeBody s = .ok u) : CommandEffect s 0x28 u := by
  obtain ⟨-, -, -, ⟨hop, -, hn, rfl⟩ | ⟨hop, -, -, rfl⟩ | ⟨hop, -, rfl⟩ | ⟨hop, rfl⟩⟩ := decodeBody_ok h
  · exact .decodeSerial hop hn
  · exact .decodeStatus hop
  · exact .decodeQuery hop
  · exact .decodeRaw hop

/-- The codes that are no command (30_encoding.md R72). -/
def reservedCode (c : Byte) : Prop :=
  c.toNat ∉ [0x00, 0x01, 0x02, 0x03, 0x04, 0x05, 0x08, 0x10, 0x20, 0x21, 0x28, 0x7E]

/-- A property of every code, from the twelve commands and the reserved codes. -/
theorem code_cases {P : Byte → Prop} (c : Byte) (nop : P 0x00) (crcInit : P 0x01) (crcFeed : P 0x02) (crcCfg : P 0x03)
    (crcOutA : P 0x04) (crcOutB : P 0x05) (fold : P 0x08) (derive : P 0x10) (encode : P 0x20) (encodeExt : P 0x21)
    (decode : P 0x28) (clrErr : P 0x7E) (reserved : reservedCode c → P c) : P c := by
  by_cases hc : reservedCode c
  · exact reserved hc
  · have hmem : c ∈ ([0x00, 0x01, 0x02, 0x03, 0x04, 0x05, 0x08, 0x10, 0x20, 0x21, 0x28, 0x7E] : List Byte) := by
      by_contra hn
      exact hc (by simpa [reservedCode, ← BitVec.toNat_inj] using hn)
    simp only [List.mem_cons, List.not_mem_nil, or_false] at hmem
    rcases hmem with rfl | rfl | rfl | rfl | rfl | rfl | rfl | rfl | rfl | rfl | rfl | rfl <;> assumption

theorem commandBody_reserved {c : Byte} (h : reservedCode c) : commandBody c = fun _ => .error .badCmd := by
  unfold commandBody
  split <;> simp_all [reservedCode]

theorem execute_reserved {c : Byte} (h : reservedCode c) (a : Byte) (s : State) :
    execute c a s = reservedCommand c s := by
  unfold execute
  split <;> simp_all [reservedCode]

/-- A write of a code to CMD runs the body of its command. -/
theorem execute_eq_command (c : Byte) (s : State) : execute c s.arg s = command c (commandBody c) s := by
  induction c using code_cases with
  | reserved hc => rw [execute_reserved hc, commandBody_reserved hc]; rfl
  | _ => rfl

theorem commandEffect_of_commandBody {c : Byte} {s u : State} (h : commandBody c s = .ok u) : CommandEffect s c u := by
  induction c using code_cases with
  | nop => cases h; exact .nop
  | crcInit => cases h; exact .crcInit
  | crcFeed => cases h; exact .crcFeed
  | crcCfg => obtain ⟨hv, rfl⟩ := crcCfgBody_ok h; exact .crcCfg hv
  | crcOutA => cases h; exact .crcOutA
  | crcOutB => cases h; exact .crcOutB
  | fold => obtain ⟨hn, rfl⟩ := foldBody_ok h; exact .fold hn
  | derive => cases h; exact .derive
  | encode => obtain ⟨ha, rfl⟩ := encodeBody_ok h; exact .encode ha
  | encodeExt => obtain ⟨ha, rfl⟩ := encodeExtBody_ok h; exact .encodeExt ha
  | decode => exact commandEffect_of_decodeBody h
  | clrErr => cases h; exact .clrErr
  | reserved hc => rw [commandBody_reserved hc] at h; cases h

/-! ## The instructions -/

/-- The state with the operands of an instruction in ARG and PLEN; where there is none the register stays. -/
def State.staged (s : State) (a n : Option Byte) : State := { s with arg := a.getD s.arg, plen := n.getD s.plen }

/-- The state in which the command of an instruction does its work: the operands staged, the code in LASTCMD. -/
def State.prepared (s : State) (c : Byte) (a n : Option Byte) : State := (s.staged a n).recorded c

/-- An extended request of a length that PLEN cannot hold (log 8). -/
def lengthRefused : State → Except CmdError State := fun _ => .error .len

theorem exec_wr_cmd (v : Byte) (s : State) : exec (.wr 0x000 v) s = command v (commandBody v) s :=
  execute_eq_command v s

theorem exec_wr_of_ne_cmd {a : Addr} (h : itemAt a ≠ .cmd) (v : Byte) (s : State) :
    exec (.wr a v) s = .next (writeItem (itemAt a) v s) := by
  show execWr a v s = _
  unfold execWr
  split
  · next hc => exact absurd hc h
  · rfl

theorem exec_wr_of_pos {a : Addr} (ha : 0 < a.toNat) (v : Byte) (s : State) :
    exec (.wr a v) s = .next (writeItem (itemAt a) v s) := by
  refine exec_wr_of_ne_cmd (itemAt_ne_cmd ?_) v s
  rintro rfl
  exact absurd ha (by decide)

theorem extRequest_runs (op : Byte) (len : Half) : ∃ n body, (body = commandBody 0x21 ∨ body = lengthRefused) ∧
    ∀ s, extRequest op len s = command 0x21 body (s.staged (some op) n) := by
  by_cases h : len.toNat < 256
  · exact ⟨some (len.setWidth 8), _, .inl rfl, fun s => if_pos h⟩
  · exact ⟨none, _, .inr rfl, fun s => if_neg h⟩

/-- An instruction with a command code runs that command, on operands and with a body that do not depend on the state. -/
theorem exec_runs_command {i : Instr} {c : Byte} (h : commandCode i = some c) :
    ∃ a n body, (body = commandBody c ∨ body = lengthRefused) ∧ ∀ s, exec i s = command c body (s.staged a n) := by
  cases i with
  | nop _ | crcInit _ | crcCfg _ | crcOutA _ | crcOutB _ | fold _ | derive _ | decode _ | clrErr _ =>
    cases h; exact ⟨none, none, _, .inl rfl, fun _ => rfl⟩
  | crcFeed arg | encode arg | encodeExt arg => cases h; exact ⟨some arg, none, _, .inl rfl, fun _ => rfl⟩
  | rd _ _ => cases h
  | wr addr v =>
    simp only [commandCode, Option.ite_none_right_eq_some, Option.some.injEq] at h
    obtain ⟨rfl, rfl⟩ := h
    exact ⟨none, none, _, .inl rfl, exec_wr_cmd v⟩
  | getSerialNum => cases h; exact ⟨some 0x80, none, _, .inl rfl, fun _ => rfl⟩
  | isBuild => cases h; exact ⟨some 0x81, none, _, .inl rfl, fun _ => rfl⟩
  | isConfigured => cases h; exact ⟨some 0x82, none, _, .inl rfl, fun _ => rfl⟩
  | lock => cases h; exact ⟨some 0x83, none, _, .inl rfl, fun _ => rfl⟩
  | genkey => cases h; exact ⟨some 0x84, none, _, .inl rfl, fun _ => rfl⟩
  | loadTransKey => cases h; exact ⟨some 0x85, none, _, .inl rfl, fun _ => rfl⟩
  | loadWriteKey => cases h; exact ⟨some 0x86, none, _, .inl rfl, fun _ => rfl⟩
  | loadAttestKey => cases h; exact ⟨some 0x87, none, _, .inl rfl, fun _ => rfl⟩
  | customRng len => cases h; exact ⟨some 0x21, extRequest_runs 0x21 len⟩
  | customSeed len => cases h; exact ⟨some 0x22, extRequest_runs 0x22 len⟩
  | customWipe len => cases h; exact ⟨some 0x23, extRequest_runs 0x23 len⟩
  | customPulse len => cases h; exact ⟨some 0x24, extRequest_runs 0x24 len⟩
  | customIdleColor len => cases h; exact ⟨some 0x25, extRequest_runs 0x25 len⟩
  | customIdleColorp len => cases h; exact ⟨some 0x26, extRequest_runs 0x26 len⟩

/-- An instruction that runs no command is a read, or a write elsewhere than to CMD. -/
theorem commandCode_none {i : Instr} (h : commandCode i = none) :
    (∃ a w, i = .rd a w) ∨ ∃ a v, i = .wr a v ∧ itemAt a ≠ .cmd := by
  cases i with
  | rd a w => exact .inl ⟨a, w, rfl⟩
  | wr a v =>
    refine .inr ⟨a, v, rfl, itemAt_ne_cmd fun ha => ?_⟩
    simp [commandCode, ha] at h
  | _ => cases h

/-- The four ways in which an instruction answers a next state. -/
inductive Answer (i : Instr) (s t : State) : Prop
  | succeeded {c : Byte} {a n : Option Byte} {u : State} (code : commandCode i = some c)
      (effect : CommandEffect (s.prepared c a n) c u) (result : t = u.succeeded)
  | failed {c : Byte} {a n : Option Byte} {e : CmdError} (code : commandCode i = some c)
      (result : t = (s.prepared c a n).raised e)
  | read {a : Addr} {w : Byte} (rd : i = .rd a w) (result : t = { s with rdata := memRead a s })
  | stored {a : Addr} {v : Byte} (wr : i = .wr a v) (result : t = writeItem (itemAt a) v s)

theorem exec_answer {i : Instr} {s t : State} (h : exec i s = .next t) : Answer i s t := by
  cases hc : commandCode i with
  | some c =>
    obtain ⟨a, n, body, hbody, hrun⟩ := exec_runs_command hc
    rw [hrun] at h
    obtain ⟨u, hu, rfl⟩ | ⟨e, -, rfl⟩ := command_next h
    · rcases hbody with rfl | rfl
      · exact .succeeded hc (commandEffect_of_commandBody hu) rfl
      · cases hu
    · exact .failed hc rfl
  | none =>
    obtain ⟨a, w, rfl⟩ | ⟨a, v, rfl, ha⟩ := commandCode_none hc
    · cases h; exact .read rfl rfl
    · rw [exec_wr_of_ne_cmd ha] at h; cases h; exact .stored rfl rfl

/-- Every instruction answers a next state (60_exceptions.md R118). -/
theorem exec_answers (i : Instr) (s : State) : ∃ t, exec i s = .next t := by
  cases hc : commandCode i with
  | some c =>
    obtain ⟨a, n, body, -, hrun⟩ := exec_runs_command hc
    exact hrun s ▸ command_answers c body _
  | none =>
    obtain ⟨a, w, rfl⟩ | ⟨a, v, rfl, ha⟩ := commandCode_none hc
    · exact ⟨_, rfl⟩
    · exact ⟨_, exec_wr_of_ne_cmd ha v s⟩

end Sys2Proof.Machine
end

section
/-! The invariant of the block (10_state.md R17): it holds at reset, and every step keeps it. -/

namespace Sys2Proof.Machine

variable {s : State}

/-! ## Reset and the bookkeeping of a command -/

theorem inv_reset : Inv State.reset := by
  have legal : RegistersLegal State.reset := ⟨by decide, by decide, .inl rfl, by decide⟩
  exact ⟨legal, nofun, nofun, fun _ => ⟨rfl, rfl, rfl⟩, nofun, nofun⟩

theorem inv_resetAsserted (s : State) (o : Option BusWord) : Inv (s.resetAsserted o) := by
  unfold State.resetAsserted
  split
  · exact inv_reset
  · dsimp only
    split <;> exact inv_reset

theorem CmdError.code_le (e : CmdError) : e.code.toNat ≤ 8 := by cases e <;> decide

/-- The operands and the record of a command's code are no part of the invariant. -/
theorem Inv.prepared (h : Inv s) (c : Byte) (a n : Option Byte) : Inv (s.prepared c a n) := h

theorem Inv.succeeded (h : Inv s) : Inv s.succeeded := by
  obtain ⟨⟨-, hregs⟩, hflags⟩ := h
  exact ⟨⟨Nat.zero_le _, hregs⟩, hflags⟩

theorem Inv.raised (h : Inv s) (e : CmdError) : Inv (s.raised e) := by
  obtain ⟨⟨-, hregs⟩, hflags⟩ := h
  exact ⟨⟨e.code_le, hregs⟩, hflags⟩

/-! ## The commands -/

/-- The length register of a frame of `k` header bytes cannot overflow when the frame fits TX. -/
theorem toNat_frame_length {n : Byte} {k : Nat} (h : n.toNat + k ≤ 64) : (n + BitVec.ofNat 8 k).toNat = n.toNat + k := by
  rw [BitVec.toNat_add, BitVec.toNat_ofNat]
  omega

theorem payload_length_of_le (h : s.plen.toNat ≤ 61) : (payload s).length = s.plen.toNat := by
  rw [payload_length, Nat.min_eq_left h]

theorem Inv.encoded (h : Inv s) (ha : admitBasic s.arg s.plen = true) :
    Inv (s.framed (basicFrame s.arg (payload s)) (s.plen + 2) false) := by
  obtain ⟨⟨herr, -, hresp⟩, hcfg, hmask, -, -, -⟩ := h
  have hle : s.plen.toNat ≤ 61 := admitBasic_le ha
  have hlen : (s.plen + 2).toNat = s.plen.toNat + 2 := toNat_frame_length (k := 2) (by omega)
  have legal : (s.plen + 2).toNat ≤ 64 := by omega
  exact ⟨⟨herr, legal, hresp⟩, hcfg, hmask, nofun,
    fun _ _ => ⟨s.arg, s.plen, payload s, payload_length_of_le hle, hle, ha, rfl, hlen⟩, nofun⟩

theorem Inv.extEncoded (h : Inv s) (ha : admitExt s.arg s.plen = true) :
    Inv (s.framed (extFrame s.arg s.plen (payload s)) (s.plen + 8) true) := by
  obtain ⟨⟨herr, -, hresp⟩, hcfg, hmask, -, -, -⟩ := h
  have hle : s.plen.toNat ≤ 56 := admitExt_le ha
  have hlen : (s.plen + 8).toNat = s.plen.toNat + 8 := toNat_frame_length (k := 8) (by omega)
  have legal : (s.plen + 8).toNat ≤ 64 := by omega
  exact ⟨⟨herr, legal, hresp⟩, hcfg, hmask, nofun, nofun,
    fun _ _ => ⟨s.arg, s.plen, payload s, payload_length_of_le (by omega), hle, ha, rfl, hlen⟩⟩

theorem Inv.received (h : Inv s) {poff plen : Byte} (ho : poff = 0 ∨ poff = 2) (hp : plen.toNat ≤ 64) :
    Inv (s.received poff plen) := by
  obtain ⟨⟨herr, htxlen, -, -⟩, hflags⟩ := h
  exact ⟨⟨herr, htxlen, ho, hp⟩, hflags⟩

/-- A write to an input of the fold keeps the invariant, whatever it leaves in CFG's inputs: CFGV falls. -/
theorem Inv.foldInputChanged (h : Inv s) (tpl : Buf 128) (ser : Buf 9) (n : Byte) :
    Inv ({ s with tpl := tpl, ser := ser, serlen := n } : State).foldInputWritten := by
  obtain ⟨hregs, -, hrest⟩ := h
  exact ⟨hregs, nofun, hrest⟩

theorem Inv.keyChanged (h : Inv s) (key : Buf 32) : Inv ({ s with key := key } : State).keyWritten := by
  obtain ⟨hregs, hcfg, -, hrest⟩ := h
  exact ⟨hregs, hcfg, nofun, hrest⟩

theorem CommandEffect.inv {c : Byte} {u : State} (he : CommandEffect s c u) (h : Inv s) : Inv u := by
  cases he with
  | nop | crcInit | crcFeed | crcCfg | crcOutA | crcOutB | clrErr => exact h
  | fold fits =>
    obtain ⟨hregs, -, hrest⟩ := h
    exact ⟨hregs, fun _ => ⟨fits, rfl⟩, hrest⟩
  | derive =>
    obtain ⟨hregs, hcfg, -, hrest⟩ := h
    exact ⟨hregs, hcfg, fun _ => rfl, hrest⟩
  | encode admitted => exact h.encoded admitted
  | encodeExt admitted => exact h.extEncoded admitted
  | decodeSerial _ fits => exact (h.foldInputChanged s.tpl _ _).received (.inr rfl) (Nat.le_trans fits (by decide))
  | decodeStatus => exact h.received (.inr rfl) (by decide)
  | decodeQuery => exact Inv.received (s := { s with configured := _ }) h (.inr rfl) (by decide)
  | decodeRaw => exact h.received (.inl rfl) (by decide)

/-! ## The bus, and a step -/

theorem Inv.writeItem (h : Inv s) (it : Item) (v : Byte) : Inv (writeItem it v s) := by
  cases it with
  | serlen => exact h.foldInputChanged s.tpl s.ser v
  | tpl i => exact h.foldInputChanged (bufSet s.tpl i v) s.ser s.serlen
  | ser i => exact h.foldInputChanged s.tpl (bufSet s.ser i v) s.serlen
  | key i => exact h.keyChanged (bufSet s.key i v)
  | _ => exact h

theorem Inv.exec {i : Instr} {t : State} (h : Inv s) (hx : exec i s = .next t) : Inv t := by
  cases exec_answer hx with
  | succeeded _ effect result => exact result ▸ (effect.inv (h.prepared _ _ _)).succeeded
  | failed _ result => exact result ▸ (h.prepared _ _ _).raised _
  | read _ result => exact result ▸ h
  | stored _ result => exact result ▸ h.writeItem _ _

/-- A step is idle, or an assertion of reset, or the next instruction. -/
theorem step_next {t : State} (h : step s = .next t) :
    t = s ∨ (∃ rest o, t = (s.withPending rest).resetAsserted o) ∨ ∃ rest i, exec i (s.withPending rest) = .next t := by
  cases hp : s.pending with
  | nil => simp only [step, fetch, hp] at h; cases h; exact .inl rfl
  | cons event rest =>
    cases event with
    | reset o => simp only [step, fetch, hp] at h; cases h; exact .inr (.inl ⟨rest, o, rfl⟩)
    | transaction w => simp only [step, fetch, hp] at h; exact .inr (.inr ⟨rest, decodeBus w, h⟩)

theorem Inv.step {t : State} (h : Inv s) (hx : step s = .next t) : Inv t := by
  obtain rfl | ⟨rest, o, rfl⟩ | ⟨rest, i, hi⟩ := step_next hx
  · exact h
  · exact inv_resetAsserted _ o
  · exact Inv.exec (s := s.withPending rest) h hi

end Sys2Proof.Machine

open Sys2Proof.Machine

/-- Settles O51. -/
theorem resetHasTheInvariant : Obligations.ResetHasTheInvariant := inv_reset

/-- Settles O50: each of the four answers of an instruction keeps the invariant, and reset restores it. -/
theorem everyStepKeepsTheInvariant : Obligations.EveryStepKeepsTheInvariant := fun _ _ hs hx => hs.step hx
end

section
/-! What changes which item (10_state.md R16 to R44): a field that no operand, read or error record touches changes by a
command that succeeds, or by a write to an item. -/

namespace Sys2Proof.Machine

variable {i : Instr} {s t u : State} {c : Byte}

/-! ## The fields that only commands and writes change -/

/-- The state without the operands of an instruction, the code of its command, the error record and the port's data. -/
def State.settled (s : State) : State :=
  { s with lastCmd := 0, arg := 0, plen := 0, err := 0, errAcc := 0, rdata := 0 }

/-- A view of the state that none of the fields left out by `settled` reaches, once changed, was changed by a command
that succeeded or by a write to an item. -/
theorem exec_changes {α : Type} {view : State → α} (hview : ∀ s, view s.settled = view s) (h : exec i s = .next t)
    (hne : view t ≠ view s) :
    (∃ c a n u, commandCode i = some c ∧ CommandEffect (s.prepared c a n) c u ∧ t = u.succeeded ∧
      view u ≠ view (s.prepared c a n)) ∨
    ∃ a v, i = .wr a v ∧ t = writeItem (itemAt a) v s := by
  have keeps : ∀ x y : State, x.settled = y.settled → view x = view y := fun x y hxy => by
    rw [← hview x, hxy, hview y]
  cases exec_answer h with
  | @succeeded c a n u code effect result =>
    refine .inl ⟨c, a, n, u, code, effect, result, fun hu => hne ?_⟩
    calc view t = view u := keeps _ _ (by rw [result]; rfl)
      _ = view (s.prepared c a n) := hu
      _ = view s := keeps _ _ rfl
  | failed _ result => exact absurd (keeps _ _ (by rw [result]; rfl)) hne
  | read _ result => exact absurd (keeps _ _ (by rw [result]; rfl)) hne
  | stored wr result => exact .inr ⟨_, _, wr, result⟩

/-! ## Writes to items (20_memory.md R60) -/

/-- The state without the items that the bus writes or clears, and without what `settled` leaves out. -/
def State.readOnly (s : State) : State :=
  { s.settled with
    cfgv := false, maskv := false, rxlen := 0, serlen := 0, pl := bufZero 61, rx := bufZero 64, tpl := bufZero 128,
    key := bufZero 32, ser := bufZero 9 }

theorem writeItem_readOnly (it : Item) (v : Byte) (s : State) : (writeItem it v s).readOnly = s.readOnly := by
  cases it <;> rfl

theorem writeItem_keeps {α : Type} {view : State → α} (hview : ∀ s, view s.readOnly = view s) (it : Item) (v : Byte)
    (s : State) : view (writeItem it v s) = view s := by
  rw [← hview, writeItem_readOnly, hview]

/-- A view of the read-only items, once changed, was changed by a command that succeeded. -/
theorem exec_changes_readOnly {α : Type} {view : State → α} (hview : ∀ s, view s.readOnly = view s)
    (h : exec i s = .next t) (hne : view t ≠ view s) :
    ∃ c a n u, commandCode i = some c ∧ CommandEffect (s.prepared c a n) c u ∧ t = u.succeeded ∧
      view u ≠ view (s.prepared c a n) := by
  have hsettled : ∀ s, view s.settled = view s := fun s => (hview s.settled).symm.trans (hview s)
  obtain hcommand | ⟨a, v, -, rfl⟩ := exec_changes hsettled h hne
  · exact hcommand
  · exact absurd (writeItem_keeps hview _ _ _) hne

/-- The items from which FOLD computes. -/
def Item.foldInput : Item → Bool
  | .serlen | .tpl _ | .ser _ => true
  | _ => false

theorem writeItem_cfgv (it : Item) (v : Byte) (s : State) :
    (writeItem it v s).cfgv = if it.foldInput then false else s.cfgv := by
  cases it <;> rfl

/-- The items from which DERIVE computes. -/
def Item.keyByte : Item → Bool
  | .key _ => true
  | _ => false

theorem writeItem_maskv (it : Item) (v : Byte) (s : State) :
    (writeItem it v s).maskv = if it.keyByte then false else s.maskv := by
  cases it <;> rfl

theorem Item.standsAt.foldInput_iff {it : Item} {n : Nat} (h : it.standsAt n) : it.foldInput = true ↔
    n = 0x011 ∨ (0x100 ≤ n ∧ n ≤ 0x17F) ∨ (0x244 ≤ n ∧ n ≤ 0x24C) := by
  cases it with
  | serlen | tpl _ | ser _ =>
    simp only [Item.standsAt] at h
    simp only [Item.foldInput, true_iff]
    omega
  | _ =>
    simp only [Item.standsAt] at h
    simp only [Item.foldInput, Bool.false_eq_true, false_iff]
    omega

theorem Item.standsAt.keyByte_iff {it : Item} {n : Nat} (h : it.standsAt n) :
    it.keyByte = true ↔ 0x200 ≤ n ∧ n ≤ 0x21F := by
  cases it with
  | key _ =>
    simp only [Item.standsAt] at h
    simp only [Item.keyByte, true_iff]
    omega
  | _ =>
    simp only [Item.standsAt] at h
    simp only [Item.keyByte, Bool.false_eq_true, false_iff]
    omega

/-! ## Changes by a command that succeeded -/

theorem cls_eq_serial {op : Byte} (h : cls op = .serial) : op = 0x80 := by
  unfold cls at h
  split at h
  · next hn => exact BitVec.eq_of_toNat_eq hn
  all_goals cases h

theorem cls_eq_query {op : Byte} (h : cls op = .query) : op = 0x82 := by
  unfold cls at h
  split at h
  case h_7 hn => exact BitVec.eq_of_toNat_eq hn
  all_goals cases h

theorem cls_serial : cls 0x80 = .serial := by decide

theorem CmdError.code_ne_zero (e : CmdError) : e.code ≠ 0 := by cases e <;> decide

/-- A command that leaves no error code did all of its effects. -/
theorem command_next_of_err_zero {body : State → Except CmdError State} (h : command c body s = .next t)
    (herr : t.err = 0) : ∃ u, body (s.recorded c) = .ok u ∧ t = u.succeeded := by
  obtain hok | ⟨e, -, rfl⟩ := command_next h
  · exact hok
  · exact absurd herr e.code_ne_zero

/-- TX and the registers that describe the frame in it (10_state.md R20, R21, R29, R37). -/
def State.frame (s : State) := (s.txv, s.txext, s.txlen, s.tx)

theorem CommandEffect.frame_changed (he : CommandEffect s c u) (hne : u.frame ≠ s.frame) :
    u.txv = true ∧ ((c = 0x20 ∧ u.txext = false) ∨ (c = 0x21 ∧ u.txext = true)) := by
  cases he with
  | encode => exact ⟨rfl, .inl ⟨rfl, rfl⟩⟩
  | encodeExt => exact ⟨rfl, .inr ⟨rfl, rfl⟩⟩
  | _ => exact absurd rfl hne

theorem CommandEffect.configured_changed (he : CommandEffect s c u) (hne : u.configured ≠ s.configured) :
    c = 0x28 ∧ bufGet s.tx 1 = 0x82 ∧ u.configured = decide (bufGet s.rx 1 = 0x01) := by
  cases he with
  | decodeQuery op => exact ⟨rfl, cls_eq_query op, rfl⟩
  | _ => exact absurd rfl hne

theorem CommandEffect.crc_changed (he : CommandEffect s c u) (hne : u.crc ≠ s.crc) :
    c = 0x01 ∨ c = 0x02 ∨ c = 0x03 := by
  cases he with
  | crcInit => exact .inl rfl
  | crcFeed => exact .inr (.inl rfl)
  | crcCfg => exact .inr (.inr rfl)
  | _ => exact absurd rfl hne

theorem CommandEffect.out_changed (he : CommandEffect s c u) (hne : (u.out0, u.out1) ≠ (s.out0, s.out1)) :
    c = 0x04 ∨ c = 0x05 := by
  cases he with
  | crcOutA => exact .inl rfl
  | crcOutB => exact .inr rfl
  | _ => exact absurd rfl hne

theorem CommandEffect.cfg_changed (he : CommandEffect s c u) (hne : u.cfg ≠ s.cfg) : c = 0x08 := by
  cases he with
  | fold => rfl
  | _ => exact absurd rfl hne

theorem CommandEffect.mask_changed (he : CommandEffect s c u) (hne : u.mask ≠ s.mask) : c = 0x10 := by
  cases he with
  | derive => rfl
  | _ => exact absurd rfl hne

theorem CommandEffect.response_changed (he : CommandEffect s c u)
    (hne : (u.rxEcho, u.rxStat, u.rxPoff, u.rxPlen) ≠ (s.rxEcho, s.rxStat, s.rxPoff, s.rxPlen)) : c = 0x28 := by
  cases he with
  | decodeSerial | decodeStatus | decodeQuery | decodeRaw => rfl
  | _ => exact absurd rfl hne

theorem CommandEffect.cfgv_changed (he : CommandEffect s c u) (hne : u.cfgv ≠ s.cfgv) :
    c = 0x08 ∨ (c = 0x28 ∧ bufGet s.tx 1 = 0x80) := by
  cases he with
  | fold => exact .inl rfl
  | decodeSerial op => exact .inr ⟨rfl, cls_eq_serial op⟩
  | _ => exact absurd rfl hne

theorem CommandEffect.maskv_changed (he : CommandEffect s c u) (hne : u.maskv ≠ s.maskv) : c = 0x10 := by
  cases he with
  | derive => rfl
  | _ => exact absurd rfl hne

/-- From `s` to `t`, the inputs of the commands stay (10_state.md R16, R28, R31, R38 to R40, R42), and the serial too
when the command is no DECODE (R36, R44). -/
def KeepsInputs (c : Byte) (s t : State) : Prop :=
  t.arg = s.arg ∧ t.plen = s.plen ∧ t.rxlen = s.rxlen ∧ t.pl = s.pl ∧ t.rx = s.rx ∧ t.tpl = s.tpl ∧ t.key = s.key ∧
    (c ≠ 0x28 → t.ser = s.ser ∧ t.serlen = s.serlen)

theorem CommandEffect.keepsInputs (he : CommandEffect s c u) : KeepsInputs c s u := by
  cases he with
  | decodeSerial => exact ⟨rfl, rfl, rfl, rfl, rfl, rfl, rfl, fun h => absurd rfl h⟩
  | _ => exact ⟨rfl, rfl, rfl, rfl, rfl, rfl, rfl, fun _ => ⟨rfl, rfl⟩⟩

theorem exec_wr_cmd_keepsInputs {v : Byte} (h : exec (.wr 0x000 v) s = .next t) : KeepsInputs v s t := by
  rw [exec_wr_cmd] at h
  obtain ⟨u, hu, rfl⟩ | ⟨e, -, rfl⟩ := command_next h
  · exact (commandEffect_of_commandBody hu).keepsInputs
  · exact ⟨rfl, rfl, rfl, rfl, rfl, rfl, rfl, fun _ => ⟨rfl, rfl⟩⟩

theorem exec_maskv_changed (h : exec i s = .next t) (hne : t.maskv ≠ s.maskv) :
    commandCode i = some 0x10 ∨ ∃ a v, i = .wr a v ∧ 0x200 ≤ a.toNat ∧ a.toNat ≤ 0x21F := by
  obtain ⟨c, a, n, u, code, effect, -, hu⟩ | ⟨a, v, hi, rfl⟩ := exec_changes (fun _ => rfl) h hne
  · exact .inl (effect.maskv_changed hu ▸ code)
  · have hkey : (itemAt a).keyByte = true := by
      by_contra hk
      exact hne (by rw [writeItem_maskv, if_neg hk])
    exact .inr ⟨a, v, hi, (itemAt_standsAt a).keyByte_iff.1 hkey⟩

theorem exec_cfgv_changed (h : exec i s = .next t) (hne : t.cfgv ≠ s.cfgv) :
    (commandCode i = some 0x08 ∧ t.err = 0) ∨ (commandCode i = some 0x28 ∧ t.err = 0 ∧ bufGet s.tx 1 = 0x80) ∨
      ∃ a v, i = .wr a v ∧
        (a.toNat = 0x011 ∨ (0x100 ≤ a.toNat ∧ a.toNat ≤ 0x17F) ∨ (0x244 ≤ a.toNat ∧ a.toNat ≤ 0x24C)) := by
  obtain ⟨c, a, n, u, code, effect, rfl, hu⟩ | ⟨a, v, hi, rfl⟩ := exec_changes (fun _ => rfl) h hne
  · obtain rfl | ⟨rfl, hop⟩ := effect.cfgv_changed hu
    · exact .inl ⟨code, rfl⟩
    · exact .inr (.inl ⟨code, rfl, hop⟩)
  · have hinput : (itemAt a).foldInput = true := by
      by_contra hk
      exact hne (by rw [writeItem_cfgv, if_neg hk])
    exact .inr (.inr ⟨a, v, hi, (itemAt_standsAt a).foldInput_iff.1 hinput⟩)

theorem exec_decode_serial_clears_cfgv {a : Byte} (h : exec (.decode a) s = .next t) (herr : t.err = 0)
    (hop : bufGet s.tx 1 = 0x80) : t.cfgv = false := by
  obtain ⟨u, hu, rfl⟩ := command_next_of_err_zero (show command 0x28 decodeBody s = .next t from h) herr
  have hcls : cls (sentOpcode (s.recorded 0x28)) = .serial := (congrArg cls hop).trans cls_serial
  obtain ⟨-, -, -, ⟨-, -, -, rfl⟩ | ⟨hc, -⟩ | ⟨hc, -⟩ | ⟨hc, -⟩⟩ := decodeBody_ok hu
  · rfl
  all_goals cases hcls.symm.trans hc

end Sys2Proof.Machine
end

section
/-! The key and MASKV reach no command but DERIVE (10_state.md R19, R42, 30_encoding.md R70). -/

namespace Sys2Proof.Machine

variable {i : Instr} {s t : State} {c : Byte}

/-- Another key in KEY and another value of MASKV. -/
def State.withKeyAndFlag (s : State) (k : Buf 32) (b : Bool) : State := { s with key := k, maskv := b }

theorem crcCfgBody_withKeyAndFlag (s : State) (k : Buf 32) (b : Bool) :
    crcCfgBody (s.withKeyAndFlag k b) = (crcCfgBody s).map (·.withKeyAndFlag k b) := by
  simp only [crcCfgBody, apply_ite (Except.map _)]; rfl

theorem foldBody_withKeyAndFlag (s : State) (k : Buf 32) (b : Bool) :
    foldBody (s.withKeyAndFlag k b) = (foldBody s).map (·.withKeyAndFlag k b) := by
  simp only [foldBody, apply_ite (Except.map _)]; rfl

theorem encodeBody_withKeyAndFlag (s : State) (k : Buf 32) (b : Bool) :
    encodeBody (s.withKeyAndFlag k b) = (encodeBody s).map (·.withKeyAndFlag k b) := by
  simp only [encodeBody, apply_ite (Except.map _)]; rfl

theorem encodeExtBody_withKeyAndFlag (s : State) (k : Buf 32) (b : Bool) :
    encodeExtBody (s.withKeyAndFlag k b) = (encodeExtBody s).map (·.withKeyAndFlag k b) := by
  simp only [encodeExtBody, apply_ite (Except.map _)]; rfl

@[simp] theorem sentOpcode_withKeyAndFlag (s : State) (k : Buf 32) (b : Bool) :
    sentOpcode (s.withKeyAndFlag k b) = sentOpcode s := rfl

theorem decodeSerial_withKeyAndFlag (s : State) (k : Buf 32) (b : Bool) :
    decodeSerial (s.withKeyAndFlag k b) = (decodeSerial s).map (·.withKeyAndFlag k b) := by
  simp only [decodeSerial, apply_ite (Except.map _)]; rfl

theorem decodeStatus_withKeyAndFlag (s : State) (k : Buf 32) (b : Bool) :
    decodeStatus (s.withKeyAndFlag k b) = (decodeStatus s).map (·.withKeyAndFlag k b) := by
  simp only [decodeStatus, apply_ite (Except.map _)]; rfl

theorem decodeQuery_withKeyAndFlag (s : State) (k : Buf 32) (b : Bool) :
    decodeQuery (s.withKeyAndFlag k b) = (decodeQuery s).map (·.withKeyAndFlag k b) := by
  simp only [decodeQuery, apply_ite (Except.map _)]; rfl

theorem decodeBody_withKeyAndFlag (s : State) (k : Buf 32) (b : Bool) :
    decodeBody (s.withKeyAndFlag k b) = (decodeBody s).map (·.withKeyAndFlag k b) := by
  simp only [decodeBody, decodeSerial_withKeyAndFlag, decodeStatus_withKeyAndFlag, decodeQuery_withKeyAndFlag,
    sentOpcode_withKeyAndFlag, apply_ite (Except.map _)]
  cases cls (sentOpcode s) <;> rfl

theorem commandBody_withKeyAndFlag (hc : c ≠ 0x10) (s : State) (k : Buf 32) (b : Bool) :
    commandBody c (s.withKeyAndFlag k b) = (commandBody c s).map (·.withKeyAndFlag k b) := by
  induction c using code_cases with
  | nop | crcInit | crcFeed | crcOutA | crcOutB | clrErr => rfl
  | crcCfg => exact crcCfgBody_withKeyAndFlag s k b
  | fold => exact foldBody_withKeyAndFlag s k b
  | encode => exact encodeBody_withKeyAndFlag s k b
  | encodeExt => exact encodeExtBody_withKeyAndFlag s k b
  | derive => exact absurd rfl hc
  | decode => exact decodeBody_withKeyAndFlag s k b
  | reserved h => rw [commandBody_reserved h]; rfl

theorem command_withKeyAndFlag {body : State → Except CmdError State} {k : Buf 32} {b : Bool}
    (hbody : ∀ s, body (s.withKeyAndFlag k b) = (body s).map (·.withKeyAndFlag k b))
    (h : command c body s = .next t) : command c body (s.withKeyAndFlag k b) = .next (t.withKeyAndFlag k b) := by
  have hrun : body ((s.withKeyAndFlag k b).recorded c) = (body (s.recorded c)).map (·.withKeyAndFlag k b) :=
    hbody (s.recorded c)
  obtain ⟨u, hu, rfl⟩ | ⟨e, he, rfl⟩ := command_next h
  · exact command_ok (t := u.withKeyAndFlag k b) (by rw [hrun, hu]; rfl)
  · exact command_error (by rw [hrun, he]; rfl)

/-- A command that is no DERIVE does the same whatever MASKV is. -/
theorem exec_wr_cmd_withFlag {v : Byte} (hv : v ≠ 0x10) (b : Bool) (h : exec (.wr 0x000 v) s = .next t) :
    exec (.wr 0x000 v) { s with maskv := b } = .next { t with maskv := b } := by
  obtain ⟨-, -, -, -, -, -, hkey, -⟩ := exec_wr_cmd_keepsInputs h
  have ht : { t with maskv := b } = t.withKeyAndFlag s.key b := by rw [← hkey]; rfl
  rw [exec_wr_cmd] at h ⊢
  rw [ht]
  exact command_withKeyAndFlag (fun s => commandBody_withKeyAndFlag hv s _ _) h

theorem readItem_withKey {it : Item} (hit : it.keyByte ≠ true) (s : State) (k : Buf 32) :
    readItem it { s with key := k } = readItem it s := by
  cases it with
  | key _ => exact absurd rfl hit
  | _ => rfl

theorem writeItem_withKey {it : Item} (hit : it.keyByte ≠ true) (v : Byte) (s : State) (k : Buf 32) :
    writeItem it v { s with key := k } = { writeItem it v s with key := k } := by
  cases it with
  | key _ => exact absurd rfl hit
  | _ => rfl

theorem not_keyByte_itemAt {a : Addr} (h : a.toNat < 0x200 ∨ 0x21F < a.toNat) : (itemAt a).keyByte ≠ true := fun hk => by
  have hin := (itemAt_standsAt a).keyByte_iff.1 hk
  omega

theorem exec_command_withKey (hc : commandCode i = some c) (hne : c ≠ 0x10) (h : exec i s = .next t)
    (hmaskv : t.maskv = s.maskv) (k : Buf 32) : exec i { s with key := k } = .next { t with key := k } := by
  obtain ⟨a, n, body, hbody, hrun⟩ := exec_runs_command hc
  have ht : { t with key := k } = t.withKeyAndFlag k s.maskv := by rw [← hmaskv]; rfl
  rw [hrun] at h ⊢
  rw [ht]
  refine command_withKeyAndFlag (s := s.staged a n) (fun s => ?_) h
  obtain rfl | rfl := hbody
  · exact commandBody_withKeyAndFlag hne s _ _
  · rfl

theorem exec_withKey (hcode : commandCode i ≠ some 0x10)
    (hrd : ∀ a w, i = .rd a w → a.toNat < 0x200 ∨ 0x21F < a.toNat)
    (hwr : ∀ a w, i = .wr a w → a.toNat < 0x200 ∨ 0x21F < a.toNat) (h : exec i s = .next t) (k : Buf 32) :
    exec i { s with key := k } = .next { t with key := k } := by
  cases hc : commandCode i with
  | some c =>
    have hmaskv : t.maskv = s.maskv := by
      by_contra hne
      obtain hderive | ⟨a, v, hi, hkey⟩ := exec_maskv_changed h hne
      · exact hcode hderive
      · have hout := hwr a v hi
        omega
    exact exec_command_withKey hc (fun h10 => hcode (h10 ▸ hc)) h hmaskv k
  | none =>
    obtain ⟨a, w, rfl⟩ | ⟨a, v, rfl, ha⟩ := commandCode_none hc
    · cases h
      have hread : memRead a { s with key := k } = memRead a s :=
        readItem_withKey (not_keyByte_itemAt (hrd a w rfl)) s k
      show Host.Outcome.next _ = _
      rw [hread]
    · rw [exec_wr_of_ne_cmd ha] at h ⊢
      cases h
      rw [writeItem_withKey (not_keyByte_itemAt (hwr a v rfl))]

end Sys2Proof.Machine
end

section
/-! What each address reads as after reset (10_state.md R48). -/

namespace Sys2Proof.Machine

/-- Of the items at reset, only ID and TPL can read as another byte than 0x00. -/
theorem readItem_reset {it : Item} (hid : it ≠ .id) (htpl : ∀ i, it ≠ .tpl i) : readItem it State.reset = 0x00 := by
  cases it with
  | id => exact absurd rfl hid
  | tpl i => exact absurd rfl (htpl i)
  | tx _ | pl _ | rx _ | cfg _ | key _ | mask _ | ser _ => exact bufGet_zero _ _
  | _ => rfl

end Sys2Proof.Machine
end

section
/-! The statements of 10_state.md. -/

open Sys2Proof Sys2Proof.Machine

/-- Settles O42: CFGV changes by a command that succeeded or by a write to an input of the fold. -/
theorem cfgvChangesOnlyAsItsRuleSays : Obligations.CfgvChangesOnlyAsItsRuleSays := by
  refine ⟨fun a s t h herr => ?fold, fun a v s t ha h => ?written, fun a s t h herr hop => ?decoded,
    fun i s t h hne => exec_cfgv_changed h hne, fun a s hv => ?notReady⟩
  case fold =>
    obtain ⟨u, hu, rfl⟩ := command_next_of_err_zero (show command 0x08 foldBody s = .next t from h) herr
    obtain ⟨-, rfl⟩ := foldBody_ok hu
    rfl
  case written =>
    rw [exec_wr_of_pos (by omega)] at h
    cases h
    rw [writeItem_cfgv, if_pos ((itemAt_standsAt a).foldInput_iff.2 ha)]
  case decoded => exact exec_decode_serial_clears_cfgv h herr hop
  case notReady =>
    have hbody : crcCfgBody (s.recorded 0x03) = .error .notReady := by simp [crcCfgBody, hv]
    exact ⟨_, command_error hbody, rfl⟩

/-- Settles O43: MASKV changes by DERIVE or by a write to KEY, and every other command commutes with a change of it. -/
theorem maskvChangesOnlyAsItsRuleSays : Obligations.MaskvChangesOnlyAsItsRuleSays := by
  refine ⟨fun a s t h => ?derived, fun a v s t hlo hhi h => ?written, fun i s t h hne => exec_maskv_changed h hne,
    fun v s t b h => ?advisory, fun a s b hlo hhi => memRead_mask hlo hhi _⟩
  case derived => cases h; rfl
  case written =>
    rw [exec_wr_of_pos (by omega)] at h
    cases h
    have hmask : (writeItem (itemAt a) v s).mask = s.mask := writeItem_keeps (fun _ => rfl) _ _ _
    exact ⟨by rw [writeItem_maskv, if_pos ((itemAt_standsAt a).keyByte_iff.2 ⟨hlo, hhi⟩)], hmask⟩
  case advisory =>
    by_cases hv : v = 0x10
    · subst hv; cases h; rfl
    · rw [if_neg hv]
      exact exec_wr_cmd_withFlag hv b h

/-- Settles O44: the frame registers and CONFIGURED are read-only on the bus, so a command that succeeded changed them. -/
theorem frameStateChangesOnlyByEncoding : Obligations.FrameStateChangesOnlyByEncoding := by
  intro i s t h
  have hframe : t.frame ≠ s.frame → t.err = 0 ∧ t.txv = true ∧
      ((commandCode i = some 0x20 ∧ t.txext = false) ∨ (commandCode i = some 0x21 ∧ t.txext = true)) := by
    intro hne
    obtain ⟨c, a, n, u, code, effect, rfl, hu⟩ := exec_changes_readOnly (fun _ => rfl) h hne
    obtain ⟨htxv, ⟨rfl, hext⟩ | ⟨rfl, hext⟩⟩ := effect.frame_changed hu
    · exact ⟨rfl, htxv, .inl ⟨code, hext⟩⟩
    · exact ⟨rfl, htxv, .inr ⟨code, hext⟩⟩
  refine ⟨fun hs => ?_, hframe, fun hne => ?_⟩
  · by_contra ht
    obtain ⟨-, htxv, -⟩ := hframe fun heq => ht ((congrArg Prod.fst heq).trans hs)
    exact ht htxv
  · obtain ⟨c, a, n, u, code, effect, rfl, hu⟩ := exec_changes_readOnly (fun _ => rfl) h hne
    obtain ⟨rfl, hop, hconf⟩ := effect.configured_changed hu
    exact ⟨code, rfl, hop, hconf⟩

/-- Settles O45: every result is read-only on the bus, so a command that succeeded changed it. -/
theorem resultsAreWrittenOnlyByTheirCommands : Obligations.ResultsAreWrittenOnlyByTheirCommands := by
  refine fun i s t h => ⟨fun hne => ?crc, fun hne => ?out, fun hne => ?cfg, fun hne => ?mask, fun hne => ?response⟩
  case crc =>
    obtain ⟨c, a, n, u, code, effect, -, hu⟩ := exec_changes_readOnly (fun _ => rfl) h hne
    obtain rfl | rfl | rfl := effect.crc_changed hu <;> simp [code]
  case out =>
    obtain ⟨c, a, n, u, code, effect, -, hu⟩ :=
      exec_changes_readOnly (view := fun s => (s.out0, s.out1)) (fun _ => rfl) h hne
    obtain rfl | rfl := effect.out_changed hu <;> simp [code]
  case cfg =>
    obtain ⟨c, a, n, u, code, effect, -, hu⟩ := exec_changes_readOnly (fun _ => rfl) h hne
    exact effect.cfg_changed hu ▸ code
  case mask =>
    obtain ⟨c, a, n, u, code, effect, -, hu⟩ := exec_changes_readOnly (fun _ => rfl) h hne
    exact effect.mask_changed hu ▸ code
  case response =>
    obtain ⟨c, a, n, u, code, effect, rfl, hu⟩ :=
      exec_changes_readOnly (view := fun s => (s.rxEcho, s.rxStat, s.rxPoff, s.rxPlen)) (fun _ => rfl) h hne
    exact ⟨effect.response_changed hu ▸ code, rfl⟩

/-- Settles O46, from what each command leaves when it succeeds. -/
theorem commandsNeverWriteTheirInputs : Obligations.CommandsNeverWriteTheirInputs := fun _ _ _ h =>
  exec_wr_cmd_keepsInputs h

/-- Settles O48: every command but DERIVE commutes with a change of KEY, as do the accesses to the other items. -/
theorem theKeyReachesOnlyDerive : Obligations.TheKeyReachesOnlyDerive := by
  intro i s k hcode hrd hwr
  obtain ⟨t, ht⟩ := exec_answers i s
  exact ⟨t, ht, exec_withKey hcode hrd hwr ht k⟩

/-- Settles O52, by what stands at the address. -/
theorem resetReadsAsItsTable : Obligations.ResetReadsAsItsTable := by
  intro a
  split
  · next hid => subst hid; rfl
  · next hid =>
    split
    · next htpl => exact memRead_tpl htpl.1 htpl.2 State.reset
    · next htpl => exact readItem_reset (itemAt_ne_id hid) (itemAt_ne_tpl htpl)
end

section
/-! The address map (20_memory.md R50, R59, R60): what stands at an address and nowhere else, what a read of it returns,
and what a write to it stores and leaves. -/

namespace Sys2Proof.Machine

variable {it : Item} {n : Nat} {a b : Addr}

/-! ## Reads (20_memory.md R59) -/

/-- STATUS, as the sum of its flags at their bits (10_state.md R17). -/
theorem statusByte_eq_flags (s : State) : statusByte s =
    ((if s.err ≠ 0 then 0x80 else 0) ||| (if s.configured then 0x10 else 0) ||| (if s.txext then 0x08 else 0) |||
      (if s.txv then 0x04 else 0) ||| (if s.maskv then 0x02 else 0) ||| (if s.cfgv then 0x01 else 0)) := by
  have flags : ∀ f c x t m g : Bool,
      (BitVec.ofBool f ++ (0#2 ++ (BitVec.ofBool c ++ (BitVec.ofBool x ++ (BitVec.ofBool t ++ (BitVec.ofBool m
        ++ BitVec.ofBool g)))))) =
      ((if f then 0x80 else 0) ||| (if c then 0x10 else 0) ||| (if x then 0x08 else 0) ||| (if t then 0x04 else 0) |||
        (if m then 0x02 else 0) ||| (if g then 0x01 else 0) : Byte) := by decide
  have herrf : errf s = decide (s.err ≠ 0) := by simp [errf, bne, beq_eq_decide]
  rw [statusByte, flags, herrf]
  simp only [decide_eq_true_eq]

/-- A read within a buffer's range, from the item at each of the buffer's addresses. -/
theorem memRead_of_range {base len : Nat} {item : Nat → Item}
    (hmap : ∀ i < len, itemAt (BitVec.ofNat 10 (base + i)) = item i) (hlo : base ≤ a.toNat)
    (hhi : a.toNat < base + len) (s : State) : memRead a s = readItem (item (a.toNat - base)) s := by
  obtain ⟨i, hi, rfl, hsub⟩ := addr_eq_base_add hlo hhi
  rw [hsub, memRead, hmap i hi]

theorem Item.standsAt.eq_reserved (h : it.standsAt n)
    (hn : (0x012 ≤ n ∧ n ≤ 0x03F) ∨ (0x0BD ≤ n ∧ n ≤ 0x0BF) ∨ 0x24D ≤ n) : it = .reserved := by
  cases it with
  | reserved => rfl
  | _ => simp only [Item.standsAt] at h; omega

theorem readItem_withRdata (it : Item) (s : State) (d : Byte) : readItem it { s with rdata := d } = readItem it s := by
  cases it <;> rfl

/-! ## The address of an item -/

theorem Item.standsAt.unique {m : Nat} (hn : it.standsAt n) (hm : it.standsAt m) (hr : it ≠ .reserved) : n = m := by
  cases it with
  | reserved => exact absurd rfl hr
  | _ => simp only [Item.standsAt] at hn hm; omega

/-- What stands at an address stands at no other, but for the reserved bytes. -/
theorem itemAt_ne_of_ne (hab : a ≠ b) (hr : itemAt b ≠ .reserved) : itemAt a ≠ itemAt b := fun heq =>
  hab (BitVec.eq_of_toNat_eq ((itemAt_standsAt a).unique (heq ▸ itemAt_standsAt b) (heq ▸ hr)))

/-- The read/write items (20_memory.md R60, R63): all that a write changes but CMD and ERRACC. -/
def Item.readWrite : Item → Bool
  | .arg | .plen | .rxlen | .serlen | .pl _ | .rx _ | .tpl _ | .key _ | .ser _ => true
  | _ => false

theorem Item.standsAt.readWrite_iff (h : it.standsAt n) : it.readWrite = true ↔
    n ∈ [0x001, 0x00A, 0x00C, 0x011] ∨ (0x080 ≤ n ∧ n ≤ 0x0BC) ∨ (0x0C0 ≤ n ∧ n ≤ 0x17F) ∨
      (0x200 ≤ n ∧ n ≤ 0x21F) ∨ (0x244 ≤ n ∧ n ≤ 0x24C) := by
  simp only [List.mem_cons, List.not_mem_nil, or_false]
  cases it with
  | arg | plen | rxlen | serlen | pl _ | rx _ | tpl _ | key _ | ser _ =>
    simp only [Item.standsAt] at h
    simp only [Item.readWrite, true_iff]
    omega
  | _ =>
    simp only [Item.standsAt] at h
    simp only [Item.readWrite, Bool.false_eq_true, false_iff]
    omega

/-! ## Writes (20_memory.md R51, R60) -/

theorem exec_wr_item (ha : itemAt a = it) (hit : it ≠ .cmd) (v : Byte) (s : State) :
    exec (.wr a v) s = .next (writeItem it v s) := by
  subst ha
  exact exec_wr_of_ne_cmd hit v s

theorem bufGet_set_of_lt {len i : Nat} (hi : i < len) (buf : Buf len) (j : Nat) (v : Byte) :
    bufGet (bufSet buf i v) j = if j = i then v else bufGet buf j := by
  simp only [bufGet_set, hi, and_true]

theorem bufGet_set_ne {len i j : Nat} (hji : j ≠ i) (buf : Buf len) (v : Byte) :
    bufGet (bufSet buf i v) j = bufGet buf j := by
  rw [bufGet_set, if_neg fun h => hji h.1]

/-- A write to an item that is neither read/write nor ERRACC stores nothing. -/
theorem writeItem_of_not_readWrite (hrw : it.readWrite = false) (hacc : it ≠ .errAcc) (v : Byte) (s : State) :
    writeItem it v s = s := by
  cases it with
  | arg | plen | rxlen | serlen | pl _ | rx _ | tpl _ | key _ | ser _ => cases hrw
  | errAcc => exact absurd rfl hacc
  | _ => rfl

theorem readItem_writeItem_same (h : it.standsAt n) (hrw : it.readWrite = true) (v : Byte) (s : State) :
    readItem it (writeItem it v s) = v := by
  cases it with
  | arg | plen | rxlen | serlen => rfl
  | pl i | rx i | tpl i | key i | ser i => exact (bufGet_set_of_lt h.1 _ i v).trans (if_pos rfl)
  | _ => cases hrw

theorem readItem_writeItem_of_ne {it' : Item} (hne : it' ≠ it) (hstatus : it' ≠ .status) (v : Byte) (s : State) :
    readItem it' (writeItem it v s) = readItem it' s := by
  cases it with
  | arg | errAcc | plen | rxlen | serlen | pl i | rx i | tpl i | key i | ser i =>
    cases it' with
    | status => exact absurd rfl hstatus
    | _ => simp_all [readItem, writeItem, bufGet_set_ne]
  | _ => rfl

/-- A write that clears no flag leaves STATUS (20_memory.md R58). -/
theorem statusByte_writeItem (hfold : it.foldInput ≠ true) (hkey : it.keyByte ≠ true) (v : Byte) (s : State) :
    statusByte (writeItem it v s) = statusByte s := by
  cases it with
  | serlen | tpl _ | ser _ => exact absurd rfl hfold
  | key _ => exact absurd rfl hkey
  | _ => rfl

theorem memRead_writeItem_of_ne (hba : b ≠ a) (hstatus : b ≠ 0x002) (v : Byte) (s : State) :
    memRead b (writeItem (itemAt a) v s) = memRead b s := by
  by_cases hr : itemAt a = .reserved
  · rw [hr]; rfl
  · exact readItem_writeItem_of_ne (itemAt_ne_of_ne hba hr) (itemAt_ne_of_ne (b := 0x002) hstatus nofun) v s

end Sys2Proof.Machine
end

section
/-! The frame of every instruction (20_memory.md R58, 30_encoding.md R71): an item outside its footprint reads as
before. -/

namespace Sys2Proof.Machine

variable {i : Instr} {s t u : State} {c : Byte} {it : Item} {n : Nat}

/-! ## The operands of an instruction -/

/-- The byte an instruction puts into ARG. -/
def argOperand : Instr → Option Byte
  | .crcFeed arg | .encode arg | .encodeExt arg => some arg
  | .getSerialNum => some 0x80
  | .isBuild => some 0x81
  | .isConfigured => some 0x82
  | .lock => some 0x83
  | .genkey => some 0x84
  | .loadTransKey => some 0x85
  | .loadWriteKey => some 0x86
  | .loadAttestKey => some 0x87
  | .customRng _ => some 0x21
  | .customSeed _ => some 0x22
  | .customWipe _ => some 0x23
  | .customPulse _ => some 0x24
  | .customIdleColor _ => some 0x25
  | .customIdleColorp _ => some 0x26
  | _ => none

/-- The byte an instruction puts into PLEN: the length of an extended request, where it fits (log 8). -/
def plenOperand : Instr → Option Byte
  | .customRng len | .customSeed len | .customWipe len | .customPulse len | .customIdleColor len
  | .customIdleColorp len => if len.toNat < 256 then some (len.setWidth 8) else none
  | _ => none

/-- `exec_runs_command` with the operands named: an instruction with a command code runs that command once its operands
stand in ARG and PLEN. -/
theorem exec_eq_command (h : commandCode i = some c) :
    ∃ body, (body = commandBody c ∨ c = 0x21 ∧ body = lengthRefused) ∧
      ∀ s, exec i s = command c body (s.staged (argOperand i) (plenOperand i)) := by
  cases i with
  | rd _ _ => cases h
  | wr addr v =>
    simp only [commandCode, Option.ite_none_right_eq_some, Option.some.injEq] at h
    obtain ⟨rfl, rfl⟩ := h
    exact ⟨_, .inl rfl, exec_wr_cmd v⟩
  | customRng len | customSeed len | customWipe len | customPulse len | customIdleColor len | customIdleColorp len =>
    cases h
    by_cases hlen : len.toNat < 256
    · exact ⟨_, .inl rfl, fun s => by simp only [plenOperand, if_pos hlen]; exact if_pos hlen⟩
    · exact ⟨_, .inr ⟨rfl, rfl⟩, fun s => by simp only [plenOperand, if_neg hlen]; exact if_neg hlen⟩
  | _ => cases h; exact ⟨_, .inl rfl, fun _ => rfl⟩

/-- The footprint of an instruction that runs a command holds that of the command, and the registers of its operands. -/
theorem outside_footprint (h : commandCode i = some c) (hf : footprint i n = false) :
    commandFootprint c n = false ∧ (n = 0x001 → argOperand i = none) ∧ (n = 0x00A → plenOperand i = none) := by
  cases i with
  | rd _ _ => cases h
  | wr addr v =>
    simp only [commandCode, Option.ite_none_right_eq_some, Option.some.injEq] at h
    obtain ⟨rfl, rfl⟩ := h
    exact ⟨hf, fun _ => rfl, fun _ => rfl⟩
  | nop _ | crcInit _ | crcCfg _ | crcOutA _ | crcOutB _ | fold _ | derive _ | decode _ | clrErr _ =>
    cases h
    exact ⟨hf, fun _ => rfl, fun _ => rfl⟩
  | customRng _ | customSeed _ | customWipe _ | customPulse _ | customIdleColor _ | customIdleColorp _ =>
    cases h
    simp only [footprint, Bool.or_eq_false_iff, beq_eq_false_iff_ne] at hf
    obtain ⟨⟨harg, hplen⟩, hcommand⟩ := hf
    exact ⟨hcommand, fun hn => absurd hn harg, fun hn => absurd hn hplen⟩
  | _ =>
    cases h
    simp only [footprint, Bool.or_eq_false_iff, beq_eq_false_iff_ne] at hf
    obtain ⟨harg, hcommand⟩ := hf
    exact ⟨hcommand, fun hn => absurd hn harg, fun _ => rfl⟩

/-! ## The frame of a command -/

theorem outside_commandFootprint (hf : commandFootprint c n = false) :
    n ≠ 0x000 ∧ n ≠ 0x002 ∧ n ≠ 0x003 ∧ resultAddress c n = false := by
  simpa only [commandFootprint, Bool.or_eq_false_iff, beq_eq_false_iff_ne, and_assoc] using hf

theorem readItem_staged {a m : Option Byte} (h : it.standsAt n) (harg : n = 0x001 → a = none)
    (hplen : n = 0x00A → m = none) (s : State) : readItem it (s.staged a m) = readItem it s := by
  cases it with
  | arg => rw [harg h]; rfl
  | plen => rw [hplen h]; rfl
  | _ => rfl

theorem readItem_recorded (h : it ≠ .cmd) (s : State) (c : Byte) : readItem it (s.recorded c) = readItem it s := by
  cases it with
  | cmd => exact absurd rfl h
  | _ => rfl

theorem readItem_succeeded (hstatus : it ≠ .status) (herr : it ≠ .err) (s : State) :
    readItem it s.succeeded = readItem it s := by
  cases it with
  | status => exact absurd rfl hstatus
  | err => exact absurd rfl herr
  | _ => rfl

theorem readItem_raised (hstatus : it ≠ .status) (herr : it ≠ .err) (hacc : it ≠ .errAcc) (s : State) (e : CmdError) :
    readItem it (s.raised e) = readItem it s := by
  cases it with
  | status => exact absurd rfl hstatus
  | err => exact absurd rfl herr
  | errAcc => exact absurd rfl hacc
  | _ => rfl

/-- ERRACC is among the results of each command that can fail (30_encoding.md R71). -/
theorem errAcc_result_of_error {e : CmdError} (h : commandBody c s = .error e) : resultAddress c 0x004 = true := by
  induction c using code_cases with
  | nop | crcInit | crcFeed | crcOutA | crcOutB | derive | clrErr => cases h
  | crcCfg | fold | encode | encodeExt | decode => rfl
  | reserved hc =>
    unfold resultAddress
    split <;> simp_all [reservedCode]

/-- What a command that succeeds leaves: every item that is none of its results. -/
theorem CommandEffect.readItem_eq (he : CommandEffect s c u) (h : it.standsAt n) (hstatus : it ≠ .status)
    (hf : resultAddress c n = false) : readItem it u = readItem it s := by
  cases he with
  | nop => rfl
  | crcInit | crcFeed | crcCfg =>
    cases it with
    | crcHi | crcLo => cases h; cases hf
    | _ => rfl
  | crcOutA | crcOutB =>
    cases it with
    | out0 | out1 => cases h; cases hf
    | _ => rfl
  | fold =>
    cases it with
    | status => exact absurd rfl hstatus
    | cfg i => obtain ⟨hi, rfl⟩ := h; simp [resultAddress] at hf; omega
    | _ => rfl
  | derive =>
    cases it with
    | status => exact absurd rfl hstatus
    | mask i => obtain ⟨hi, rfl⟩ := h; simp [resultAddress] at hf; omega
    | _ => rfl
  | encode | encodeExt =>
    cases it with
    | status => exact absurd rfl hstatus
    | txlen => cases h; cases hf
    | tx i => obtain ⟨hi, rfl⟩ := h; simp [resultAddress] at hf; omega
    | _ => rfl
  | decodeSerial | decodeStatus | decodeQuery | decodeRaw =>
    cases it with
    | status => exact absurd rfl hstatus
    | rxEcho | rxStat | rxPoff | rxPlen | serlen => cases h; cases hf
    | ser i => obtain ⟨hi, rfl⟩ := h; simp [resultAddress] at hf; omega
    | _ => rfl
  | clrErr =>
    cases it with
    | errAcc => cases h; cases hf
    | _ => rfl

/-- The frame of a command, whether it succeeds or fails (60_exceptions.md R120, R121). -/
theorem command_readItem_eq {body : State → Except CmdError State}
    (hbody : body = commandBody c ∨ c = 0x21 ∧ body = lengthRefused) (hrun : command c body s = .next t)
    (h : it.standsAt n) (hf : commandFootprint c n = false) : readItem it t = readItem it s := by
  obtain ⟨hn0, hn2, hn3, hresult⟩ := outside_commandFootprint hf
  have hcmd : it ≠ .cmd := by rintro rfl; exact hn0 h
  have hstatus : it ≠ .status := by rintro rfl; exact hn2 h
  have herr : it ≠ .err := by rintro rfl; exact hn3 h
  have hrec : readItem it (s.recorded c) = readItem it s := readItem_recorded hcmd s c
  obtain ⟨u, hu, rfl⟩ | ⟨e, he, rfl⟩ := command_next hrun
  · have effect : CommandEffect (s.recorded c) c u := by
      obtain rfl | ⟨-, rfl⟩ := hbody
      · exact commandEffect_of_commandBody hu
      · cases hu
    calc readItem it u.succeeded = readItem it u := readItem_succeeded hstatus herr u
      _ = readItem it (s.recorded c) := effect.readItem_eq h hstatus hresult
      _ = readItem it s := hrec
  · have hacc : it ≠ .errAcc := by
      rintro rfl
      have hfails : resultAddress c 0x004 = true := by
        obtain rfl | ⟨rfl, -⟩ := hbody
        · exact errAcc_result_of_error he
        · rfl
      cases h
      exact absurd hfails (by simp [hresult])
    exact (readItem_raised hstatus herr hacc _ e).trans hrec

/-! ## The frame of an instruction -/

theorem exec_command_memRead_eq (hc : commandCode i = some c) (h : exec i s = .next t) (a : Addr)
    (hf : footprint i a.toNat = false) : memRead a t = memRead a s := by
  obtain ⟨body, hbody, hrun⟩ := exec_eq_command hc
  obtain ⟨hcommand, harg, hplen⟩ := outside_footprint hc hf
  calc memRead a t = memRead a (s.staged (argOperand i) (plenOperand i)) :=
        command_readItem_eq hbody ((hrun s).symm.trans h) (itemAt_standsAt a) hcommand
    _ = memRead a s := readItem_staged (itemAt_standsAt a) harg hplen s

theorem clearsStatus_of_input {a : Addr} (h : (itemAt a).foldInput = true ∨ (itemAt a).keyByte = true) :
    clearsStatus a.toNat = true := by
  simp only [(itemAt_standsAt a).foldInput_iff, (itemAt_standsAt a).keyByte_iff] at h
  simp only [clearsStatus, Bool.or_eq_true, beq_iff_eq, decide_eq_true_eq]
  omega

theorem writeItem_memRead_eq {a b : Addr} {v : Byte} (ha : a ≠ 0x000) (hf : footprint (.wr a v) b.toNat = false)
    (s : State) : memRead b (writeItem (itemAt a) v s) = memRead b s := by
  simp only [footprint, if_neg ha, Bool.or_eq_false_iff, beq_eq_false_iff_ne] at hf
  obtain ⟨hba, hclears⟩ := hf
  by_cases hb : b = 0x002
  · subst hb
    have hkeeps : clearsStatus a.toNat ≠ true := by simpa using hclears
    exact statusByte_writeItem (fun hfold => hkeeps (clearsStatus_of_input (.inl hfold)))
      (fun hkey => hkeeps (clearsStatus_of_input (.inr hkey))) v s
  · exact memRead_writeItem_of_ne (fun heq => hba (congrArg _ heq)) hb v s

theorem exec_memRead_eq (h : exec i s = .next t) (a : Addr) (hf : footprint i a.toNat = false) :
    memRead a t = memRead a s := by
  cases hc : commandCode i with
  | some c => exact exec_command_memRead_eq hc h a hf
  | none =>
    obtain ⟨b, w, rfl⟩ | ⟨b, v, rfl, hb⟩ := commandCode_none hc
    · cases h
      exact readItem_withRdata _ _ _
    · rw [exec_wr_of_ne_cmd hb] at h
      cases h
      exact writeItem_memRead_eq (by rintro rfl; exact hb rfl) hf s

/-! ## The transactions to come and the data of the port (logs 1 to 3) -/

/-- The model's own fields: no item of the block. -/
def State.port (s : State) := (s.pending, s.openReads, s.rdata)

theorem CommandEffect.port_eq (he : CommandEffect s c u) : u.port = s.port := by
  cases he <;> rfl

theorem writeItem_port (it : Item) (v : Byte) (s : State) : (writeItem it v s).port = s.port := by
  cases it <;> rfl

/-- An instruction that is no read leaves the port as it is. -/
theorem exec_port (h : exec i s = .next t) :
    t.port = s.port ∨ ∃ a w, i = .rd a w ∧ t = { s with rdata := memRead a s } := by
  cases exec_answer h with
  | succeeded _ effect result => exact .inl (result ▸ effect.port_eq)
  | failed _ result => exact .inl (result ▸ rfl)
  | read rd result => exact .inr ⟨_, _, rd, result⟩
  | stored _ result => exact .inl (result ▸ writeItem_port _ _ _)

end Sys2Proof.Machine
end

section
/-! A step, by the next event (20_memory.md R52). -/

namespace Sys2Proof.Machine

theorem step_idle {s : State} (h : s.pending = []) : step s = .next s := by
  simp only [step, fetch, h]

theorem step_transaction {s : State} {w : BusWord} {rest : List BusEvent} (h : s.pending = .transaction w :: rest) :
    step s = exec (decodeBus w) (s.withPending rest) := by
  simp only [step, fetch, h]

end Sys2Proof.Machine
end

section
/-! The statements of 20_memory.md. -/

open Sys2Proof Sys2Proof.Machine

/-- Settles O33: the port's data is no byte of the address space. -/
theorem readsChangeNoByte : Obligations.ReadsChangeNoByte := fun _ _ _ =>
  ⟨_, rfl, rfl, fun _ => readItem_withRdata _ _ _, rfl⟩

/-- Settles O34: the registers and the flags one by one, then the ranges, from what stands at their addresses. -/
theorem memReadFollowsTheMap : Obligations.MemReadFollowsTheMap := by
  intro s
  refine ⟨rfl, rfl, statusByte_eq_flags s, rfl, rfl, rfl, half_bytes s.crc, rfl, rfl, rfl, rfl, rfl, rfl, rfl, rfl, rfl,
    rfl, fun a hlo hhi => ?tx, fun a hlo hhi => ?pl, fun a hlo hhi => ?rx, fun a hlo hhi => memRead_tpl hlo hhi s,
    fun a hlo hhi => ?cfg, fun a hlo hhi => ?key, fun a hlo hhi => memRead_mask hlo hhi s, fun a hlo hhi => ?ser,
    fun a ha => ?reserved⟩
  case tx => exact memRead_of_range (fun _ => itemAt_tx) hlo (by omega) s
  case pl => exact memRead_of_range (fun _ => itemAt_pl) hlo (by omega) s
  case rx => exact memRead_of_range (fun _ => itemAt_rx) hlo (by omega) s
  case cfg => exact memRead_of_range (fun _ => itemAt_cfg) hlo (by omega) s
  case key => exact memRead_of_range (fun _ => itemAt_key) hlo (by omega) s
  case ser => exact memRead_of_range (fun _ => itemAt_ser) hlo (by omega) s
  case reserved => rw [memRead, (itemAt_standsAt a).eq_reserved ha, readItem]

/-- Settles O35. -/
theorem registerWritesFollowTheMap : Obligations.RegisterWritesFollowTheMap := fun v s =>
  ⟨exec_wr_item (it := .arg) rfl nofun v s, exec_wr_item (it := .errAcc) rfl nofun v s,
    exec_wr_item (it := .plen) rfl nofun v s, exec_wr_item (it := .rxlen) rfl nofun v s,
    exec_wr_item (it := .serlen) rfl nofun v s⟩

/-- Settles O36: what stands at each index, and what a buffer reads as once that byte is set. -/
theorem bufferWritesFollowTheMap : Obligations.BufferWritesFollowTheMap := fun v s =>
  ⟨fun _ hi => ⟨_, exec_wr_item (itemAt_pl hi) nofun v s, fun j _ => bufGet_set_of_lt hi _ j v⟩,
    fun _ hi => ⟨_, exec_wr_item (itemAt_rx hi) nofun v s, fun j _ => bufGet_set_of_lt hi _ j v⟩,
    fun _ hi => ⟨_, exec_wr_item (itemAt_tpl hi) nofun v s, fun j _ => bufGet_set_of_lt hi _ j v⟩,
    fun _ hi => ⟨_, exec_wr_item (itemAt_key hi) nofun v s, fun j _ => bufGet_set_of_lt hi _ j v⟩,
    fun _ hi => ⟨_, exec_wr_item (itemAt_ser hi) nofun v s, fun j _ => bufGet_set_of_lt hi _ j v⟩⟩

/-- Settles O37: no read-only or reserved address holds a read/write item or ERRACC. -/
theorem readOnlyAndReservedWritesAreIgnored : Obligations.ReadOnlyAndReservedWritesAreIgnored := by
  intro a v s
  refine ⟨fun ha => ?readOnly, fun ha => ?reserved, exec_answers _ s, exec_answers _ s⟩
  case readOnly =>
    simp only [List.mem_cons, List.not_mem_nil, or_false] at ha
    have hrw : (itemAt a).readWrite = false := by
      rw [Bool.eq_false_iff, Ne, (itemAt_standsAt a).readWrite_iff]
      simp only [List.mem_cons, List.not_mem_nil, or_false]
      omega
    have hacc : itemAt a ≠ .errAcc := fun hacc => by
      have hn : (itemAt a).standsAt a.toNat := itemAt_standsAt a
      rw [hacc, Item.standsAt] at hn
      omega
    rw [exec_wr_of_pos (by omega), writeItem_of_not_readWrite hrw hacc]
  case reserved =>
    have hit : itemAt a = .reserved := (itemAt_standsAt a).eq_reserved ha
    exact ⟨exec_wr_item hit nofun v s, by rw [memRead, hit, readItem]⟩

/-- Settles O38: the written item reads back, and stands at no other address. -/
theorem writesReadBackAndKeepOtherBytes : Obligations.WritesReadBackAndKeepOtherBytes := by
  intro a v s ha
  have hrw : (itemAt a).readWrite = true := (itemAt_standsAt a).readWrite_iff.2 ha
  have hcmd : itemAt a ≠ .cmd := fun hit => by rw [hit] at hrw; cases hrw
  exact ⟨_, exec_wr_of_ne_cmd hcmd v s, readItem_writeItem_same (itemAt_standsAt a) hrw v s,
    fun b hba hstatus => memRead_writeItem_of_ne hba hstatus v s⟩

/-- Settles O39: a command keeps every item that is none of its results, and a write every item but its own. -/
theorem everyInstructionStaysInItsFootprint : Obligations.EveryInstructionStaysInItsFootprint := by
  intro i s t h
  refine ⟨exec_memRead_eq h, ?_⟩
  obtain hport | ⟨a, w, rfl, rfl⟩ := exec_port h
  · obtain ⟨hpending, hreads, hdata⟩ : t.pending = s.pending ∧ t.openReads = s.openReads ∧ t.rdata = s.rdata := by
      simpa only [State.port, Prod.mk.injEq] using hport
    exact ⟨hpending, hreads, .inl hdata⟩
  · exact ⟨rfl, rfl, .inr ⟨a, w, rfl⟩⟩

/-- Settles O54. -/
theorem aStepRunsTheNextTransaction : Obligations.AStepRunsTheNextTransaction := by
  refine fun s => ⟨fun w rest i hpending hdecode => ?_, step_idle⟩
  cases hdecode
  exact step_transaction hpending
end

section
/-! The decoders of bus words and request frames (30_encoding.md R68, R74, R75): the fields of a bus word, and the
frames that begin with a header. -/

namespace Sys2Proof

/-! ## Bus words (R68) -/

theorem decodeBus_busWord (we : Bool) (addr : Addr) (wdata : Byte) :
    decodeBus (busWord we addr wdata) = if we then .wr addr wdata else .rd addr wdata := by
  have hwe : (busWord we addr wdata).getLsbD 18 = we := by rw [busWord, BitVec.getLsbD_append]; simp
  have haddr : (busWord we addr wdata).extractLsb' 8 10 = addr := by
    rw [busWord, BitVec.extractLsb'_append_eq_of_add_le (by decide), extract_high]
  have hdata : (busWord we addr wdata).extractLsb' 0 8 = wdata := by
    rw [busWord, BitVec.extractLsb'_append_eq_of_add_le (by decide), extract_low]
  rw [decodeBus, hwe, haddr, hdata]

theorem busWord_fields (w : BusWord) : busWord (w.getLsbD 18) (w.extractLsb' 8 10) (w.extractLsb' 0 8) = w := by
  have hlow : w.extractLsb' 8 10 ++ w.extractLsb' 0 8 = w.extractLsb' 0 18 :=
    BitVec.extractLsb'_append_extractLsb'_eq_extractLsb' rfl
  have hhigh : BitVec.ofBool (w.getLsbD 18) = w.extractLsb' 18 1 := by
    apply BitVec.eq_of_getLsbD_eq
    intro i hi
    obtain rfl : i = 0 := by omega
    simp
  rw [busWord, hlow, hhigh]
  exact (BitVec.extractLsb'_append_extractLsb'_eq_extractLsb' rfl).trans BitVec.extractLsb'_eq_self

/-! ## Request frames (R74, R75) -/

theorem decodeFrame_basic {op : Byte} {i : Instr} (h : basicInstr op = some i) (p : List Byte) :
    decodeFrame (basicHead op ++ p) = .ok (i, p) := by
  simp [decodeFrame, basicHead, basicHeader, h]

/-- The bytes of an extended header begin no basic frame: 0xFF is no core opcode (R77). -/
theorem basicInstr_ff : basicInstr 255#8 = none := rfl

theorem decodeFrame_ext {op hi lo : Byte} {i : Instr} (h : extInstr op (hi ++ lo) = some i) (p : List Byte) :
    decodeFrame ([0x00, 0xFF, 0xFF, 0xFF, 0xFF, op, hi, lo] ++ p) = .ok (i, p) := by
  simp [decodeFrame, basicHeader, basicInstr_ff, extHeader, h]

theorem decodeFrame_ext_unlisted {op hi lo : Byte} (h : extInstr op (hi ++ lo) = none) (p : List Byte) :
    decodeFrame ([0x00, 0xFF, 0xFF, 0xFF, 0xFF, op, hi, lo] ++ p) =
      .error (.unlistedFrame ([0x00, 0xFF, 0xFF, 0xFF, 0xFF, op, hi, lo] ++ p)) := by
  simp [decodeFrame, basicHeader, basicInstr_ff, extHeader, h]

theorem extHead_append (op hi lo : Byte) : extHead op (hi ++ lo) = [0x00, 0xFF, 0xFF, 0xFF, 0xFF, op, hi, lo] := by
  rw [extHead, extract_high, extract_low]

/-- The auxiliary opcodes (R77). -/
theorem extInstr_isSome_iff (op : Byte) (len : Half) :
    (extInstr op len).isSome = true ↔ 0x21 ≤ op.toNat ∧ op.toNat ≤ 0x26 := by
  unfold extInstr
  split
  case h_7 => simp only [Option.isSome_none, Bool.false_eq_true, false_iff, imp_false] at *; omega
  all_goals simp [*]

end Sys2Proof
end

section
/-! What each format's decoder says of the instruction it answers, and that the formats hold every instruction: a fact
about all instructions has four cases. -/

namespace Sys2Proof.Machine

variable {i : Instr}

/-! ## What each format's decoder says of the instruction it answers -/

theorem byte_eq_of_toNat {b : Byte} {n : Nat} (h : b.toNat = n) : b = BitVec.ofNat 8 n := by
  rw [← h, BitVec.ofNat_toNat, BitVec.setWidth_eq]

theorem reservedCode_iff_not_mem (c : Byte) : reservedCode c ↔
    c ∉ ([0x00, 0x01, 0x02, 0x03, 0x04, 0x05, 0x08, 0x10, 0x20, 0x21, 0x28, 0x7E] : List Byte) := by
  simp [reservedCode, ← BitVec.toNat_inj]

theorem decodeCmd_reserved {c : Byte} (h : reservedCode c) (a : Byte) : decodeCmd c a = .error (.reservedCommand c) := by
  unfold decodeCmd
  split <;> simp_all [reservedCode]

/-- The command of a CMD word: its encoding is the word, its meaning the dispatch of R67, its placing a write to CMD. -/
theorem decodeCmd_ok {code arg : Byte} (h : decodeCmd code arg = .ok i) :
    encode i = .cmd (cmdWord code arg) ∧ (∀ s, exec i s = execute code arg s) ∧
      ∀ s, State.issueInstr s i = s.issueCommand code arg := by
  induction code using code_cases with
  | reserved hc => rw [decodeCmd_reserved hc] at h; cases h
  | _ => cases h; exact ⟨rfl, fun _ => rfl, fun _ => rfl⟩

theorem decodeCmd_error {code arg : Byte} {e : DecodeError} (h : decodeCmd code arg = .error e) :
    e = .reservedCommand code ∧ reservedCode code := by
  induction code using code_cases with
  | reserved hc => rw [decodeCmd_reserved hc] at h; cases h; exact ⟨rfl, hc⟩
  | _ => cases h

/-- The transaction of a bus word. -/
theorem decodeBus_spec (w : BusWord) :
    encode (decodeBus w) = .bus w ∧ ∀ s : State, s.issueInstr (decodeBus w) = s.issue w := by
  obtain ⟨we, addr, wdata, rfl⟩ : ∃ we addr wdata, busWord we addr wdata = w := ⟨_, _, _, busWord_fields w⟩
  rw [decodeBus_busWord]
  cases we with
  | true => exact ⟨rfl, fun _ => rfl⟩
  | false => exact ⟨rfl, fun _ => rfl⟩

/-- The request of a core opcode (log 7). -/
theorem basicInstr_some {op : Byte} (h : basicInstr op = some i) :
    encode i = .frame (basicHead op) ∧ (∀ s, exec i s = basicRequest op s) ∧
      ∀ s : State, s.issueInstr i = s.issueCommand 0x20 op := by
  unfold basicInstr at h
  split at h
  case h_9 => cases h
  all_goals
    next hop =>
    obtain rfl := byte_eq_of_toNat hop
    cases h
    exact ⟨rfl, fun _ => rfl, fun _ => rfl⟩

/-- The request of an auxiliary opcode (log 8). -/
theorem extInstr_some {op : Byte} {len : Half} (h : extInstr op len = some i) :
    encode i = .frame (extHead op len) ∧ (∀ s, exec i s = extRequest op len s) ∧
      (∀ s : State, s.issueInstr i = (s.stageLen len).issueCommand 0x21 op) ∧ WellFormed i = lenAdmitted op len := by
  unfold extInstr at h
  split at h
  case h_7 => cases h
  all_goals
    next hop =>
    obtain rfl := byte_eq_of_toNat hop
    cases h
    exact ⟨rfl, fun _ => rfl, fun _ => rfl, rfl⟩

/-! ## Every instruction, by its format -/

/-- The formats of the opcode table, each by its decoder. -/
inductive InFormat (i : Instr) : Prop
  | command {code arg : Byte} (word : decodeCmd code arg = .ok i)
  | bus {w : BusWord} (word : decodeBus w = i)
  | basic {op : Byte} (row : basicInstr op = some i)
  | ext {op : Byte} {len : Half} (row : extInstr op len = some i)

/-- Every instruction is of one of the formats. -/
theorem inFormat (i : Instr) : InFormat i := by
  cases i with
  | nop arg => exact .command (code := 0x00) (arg := arg) rfl
  | crcInit arg => exact .command (code := 0x01) (arg := arg) rfl
  | crcFeed arg => exact .command (code := 0x02) (arg := arg) rfl
  | crcCfg arg => exact .command (code := 0x03) (arg := arg) rfl
  | crcOutA arg => exact .command (code := 0x04) (arg := arg) rfl
  | crcOutB arg => exact .command (code := 0x05) (arg := arg) rfl
  | fold arg => exact .command (code := 0x08) (arg := arg) rfl
  | derive arg => exact .command (code := 0x10) (arg := arg) rfl
  | encode arg => exact .command (code := 0x20) (arg := arg) rfl
  | encodeExt arg => exact .command (code := 0x21) (arg := arg) rfl
  | decode arg => exact .command (code := 0x28) (arg := arg) rfl
  | clrErr arg => exact .command (code := 0x7E) (arg := arg) rfl
  | rd addr wdata => exact .bus (decodeBus_busWord false addr wdata)
  | wr addr wdata => exact .bus (decodeBus_busWord true addr wdata)
  | getSerialNum => exact .basic (op := 0x80) rfl
  | isBuild => exact .basic (op := 0x81) rfl
  | isConfigured => exact .basic (op := 0x82) rfl
  | lock => exact .basic (op := 0x83) rfl
  | genkey => exact .basic (op := 0x84) rfl
  | loadTransKey => exact .basic (op := 0x85) rfl
  | loadWriteKey => exact .basic (op := 0x86) rfl
  | loadAttestKey => exact .basic (op := 0x87) rfl
  | customRng len => exact .ext (op := 0x21) (len := len) rfl
  | customSeed len => exact .ext (op := 0x22) (len := len) rfl
  | customWipe len => exact .ext (op := 0x23) (len := len) rfl
  | customPulse len => exact .ext (op := 0x24) (len := len) rfl
  | customIdleColor len => exact .ext (op := 0x25) (len := len) rfl
  | customIdleColorp len => exact .ext (op := 0x26) (len := len) rfl

theorem decode_encode (i : Instr) : decode (encode i) = .ok i := by
  cases inFormat i with
  | @command code arg word =>
    obtain ⟨hencode, -, -⟩ := decodeCmd_ok word
    rw [hencode, cmdWord, decode_cmd_fields, word]
  | @bus w word =>
    obtain ⟨hencode, -⟩ := decodeBus_spec w
    rw [← word, hencode, decode]
  | @basic op row =>
    obtain ⟨hencode, -, -⟩ := basicInstr_some row
    rw [hencode, decode, ← List.append_nil (basicHead op), decodeFrame_basic row]
    rfl
  | @ext op len row =>
    obtain ⟨hencode, -, -, -⟩ := extInstr_some row
    rw [← half_bytes len] at row
    rw [hencode, decode, extHead, ← List.append_nil [_, _, _, _, _, _, _, _], decodeFrame_ext row]
    rfl

end Sys2Proof.Machine
end

section
/-! The word of a table row, placed as the next transaction (30_encoding.md R66, R78; log 10). -/

namespace Sys2Proof.Machine

theorem step_issue (s : State) (w : BusWord) : step (s.issue w) = exec (decodeBus w) s := step_transaction rfl

theorem step_issueCommand (s : State) (code arg : Byte) :
    step (s.issueCommand code arg) = execute code arg (s.withArg arg) := by
  rw [State.issueCommand, step_issue, decodeBus_busWord]
  rfl

/-- A length that PLEN cannot hold is staged as 0xFF, and ENCODE_EXT turns both away with the same error. -/
theorem execute_stageLen (s : State) (op : Byte) (len : Half) :
    execute 0x21 op ((s.stageLen len).withArg op) = extRequest op len ((s.stageLen len).withArg op) := by
  by_cases hlen : len.toNat < 256
  · simp only [State.stageLen, extRequest, if_pos hlen]
    rfl
  · have hrefused : admitExt op 0xFF ≠ true := fun h => absurd (admitExt_le h) (by decide)
    simp only [State.stageLen, extRequest, if_neg hlen]
    have hexecute : execute 0x21 op ((s.withPlen 0xFF).withArg op) =
        command 0x21 encodeExtBody ((s.withPlen 0xFF).withArg op) := rfl
    rw [hexecute, command_error (e := .len) (if_neg hrefused), command_error rfl]
    rfl

/-- An instruction of any format, placed as the next transaction, runs on the operands staged for it. -/
theorem step_issueInstr (i : Instr) (s : State) :
    step (s.issueInstr i) = exec i ((s.issueInstr i).withPending s.pending) := by
  cases inFormat i with
  | command word =>
    obtain ⟨-, hexec, hissue⟩ := decodeCmd_ok word
    rw [hissue, step_issueCommand, hexec]
    rfl
  | @bus w word =>
    obtain ⟨-, hissue⟩ := decodeBus_spec w
    rw [← word, hissue, step_issue]
    rfl
  | basic row =>
    obtain ⟨-, hexec, hissue⟩ := basicInstr_some row
    rw [hissue, step_issueCommand, hexec]
    rfl
  | ext row =>
    obtain ⟨-, hexec, hissue, -⟩ := extInstr_some row
    rw [hissue, step_issueCommand, hexec, execute_stageLen]
    rfl

end Sys2Proof.Machine
end

section
/-! The frames the encoders build (30_encoding.md R74, R75; 42_codec.md R108, R109). -/

namespace Sys2Proof.Machine

variable {head p : List Byte} {b : Nat}

theorem bufGet_frame_head {k : Nat} (hk : k < head.length) (hfit : k < 64) :
    bufGet (bufOfList 64 (head ++ p)) k = head[k] := by
  rw [bufGet_ofList, if_pos hfit, List.getD_append _ _ _ _ hk, List.getD_eq_getElem _ _ hk]

theorem map_bufGet_frame_head (hfit : head.length ≤ 64) :
    (List.range head.length).map (fun k => bufGet (bufOfList 64 (head ++ p)) k) = head :=
  List.ext_getElem (by simp) fun k _ hk => by
    rw [List.getElem_map, List.getElem_range, bufGet_frame_head hk (by omega)]

/-- After its header a frame holds the payload, and zeros from there to the end of TX. -/
theorem bufGet_frame (hhead : head.length = b) (pl : Buf 61) {n : Nat} (hfit : n ≤ 61 ∧ b + n ≤ 64) (k : Nat) :
    bufGet (bufOfList 64 (head ++ bufTake pl n)) (b + k) = if k < n then bufGet pl k else 0x00 := by
  subst hhead
  rw [bufGet_ofList, List.getD_append_right _ _ _ _ (Nat.le_add_right _ _), Nat.add_sub_cancel_left, bufTake_getD]
  by_cases hk : k < n
  · rw [if_pos (by omega), if_pos (by omega), if_pos hk]
  · rw [if_neg (fun h : k < n ∧ k < 61 => hk h.1), if_neg hk, ite_self]

theorem bufGet_frame_payload (hhead : head.length = b) (pl : Buf 61) {n : Nat} (hfit : n ≤ 61 ∧ b + n ≤ 64) {k : Nat}
    (hk : k < n) : bufGet (bufOfList 64 (head ++ bufTake pl n)) (b + k) = bufGet pl k := by
  rw [bufGet_frame hhead pl hfit, if_pos hk]

theorem bufGet_frame_tail (hhead : head.length = b) (pl : Buf 61) {n : Nat} (hfit : n ≤ 61 ∧ b + n ≤ 64) {k : Nat}
    (hk : n + b ≤ k) : bufGet (bufOfList 64 (head ++ bufTake pl n)) k = 0x00 := by
  obtain ⟨j, rfl⟩ : ∃ j, k = b + j := ⟨k - b, by omega⟩
  rw [bufGet_frame hhead pl hfit, if_neg (by omega)]

/-! ## An encoder on a length its opcode admits -/

theorem command_encode_admitted {s : State} (h : admitBasic s.arg s.plen = true) : command 0x20 encodeBody s =
    .next ((s.recorded 0x20).framed (basicFrame s.arg (payload s)) (s.plen + 2) false).succeeded :=
  command_ok (s := s) (if_pos h)

theorem command_encodeExt_admitted {s : State} (h : admitExt s.arg s.plen = true) : command 0x21 encodeExtBody s =
    .next ((s.recorded 0x21).framed (extFrame s.arg s.plen (payload s)) (s.plen + 8) true).succeeded :=
  command_ok (s := s) (if_pos h)

theorem basicRequest_admitted {op : Byte} {s : State} (h : admitBasic op s.plen = true) :
    basicRequest op s = .next { s with
      arg := op, lastCmd := 0x20, tx := bufOfList 64 (basicHead op ++ bufTake s.pl s.plen.toNat), txlen := s.plen + 2,
      txv := true, txext := false, err := 0x00 } :=
  command_encode_admitted (s := s.withArg op) h

theorem extRequest_admitted {op n : Byte} (h : admitExt op n = true) (s : State) :
    extRequest op (n.setWidth 16) s = .next { s with
      arg := op, plen := n, lastCmd := 0x21, tx := bufOfList 64 (extHead op (n.setWidth 16) ++ bufTake s.pl n.toNat),
      txlen := n + 8, txv := true, txext := true, err := 0x00 } := by
  have hlen : (n.setWidth 16).toNat < 256 := by simp; omega
  have hn : (n.setWidth 16).setWidth 8 = n := by simp
  rw [extRequest, if_pos hlen, hn]
  exact command_encodeExt_admitted (s := (s.withPlen n).withArg op) h

theorem admitExt_of_lenAdmitted {op n : Byte} (h : lenAdmitted op (n.setWidth 16) = true) : admitExt op n = true := by
  rw [lenAdmitted, Bool.and_eq_true] at h
  simpa using h.2

end Sys2Proof.Machine
end

section
/-! The statements of 30_encoding.md. -/

open Sys2Proof Sys2Proof.Machine

/-- Settles O56: an instruction is of one of four formats, and each decoder reads back what the encoder wrote. -/
theorem decodeInvertsEncode : Obligations.DecodeInvertsEncode := decode_encode

/-- Settles O4: a write to CMD dispatches the code on ARG, which is the meaning of the command decoded from them. -/
theorem cmdWriteRunsTheCommandWord : Obligations.CmdWriteRunsTheCommandWord := by
  intro v s i h
  rw [decode_cmd_fields] at h
  obtain ⟨-, hexec, -⟩ := decodeCmd_ok h
  exact (hexec s).symm

/-- Settles O30: a row is a core opcode with the one length it admits, and ENCODE builds the frame of both. -/
theorem basicRequestsBuildTheirFrames : Obligations.BasicRequestsBuildTheirFrames := by
  intro i op n s hmem hplen
  have hrow : basicInstr op = some i ∧ admitBasic op n = true := by
    simp only [List.mem_cons, List.not_mem_nil, or_false, Prod.mk.injEq] at hmem
    rcases hmem with ⟨rfl, rfl, rfl⟩ | ⟨rfl, rfl, rfl⟩ | ⟨rfl, rfl, rfl⟩ | ⟨rfl, rfl, rfl⟩ | ⟨rfl, rfl, rfl⟩ |
      ⟨rfl, rfl, rfl⟩ | ⟨rfl, rfl, rfl⟩ | ⟨rfl, rfl, rfl⟩ <;> exact ⟨rfl, by decide⟩
  obtain ⟨hop, hadmit⟩ := hrow
  subst hplen
  obtain ⟨hencode, hexec, -⟩ := basicInstr_some hop
  have hn : s.plen.toNat ≤ 61 := admitBasic_le hadmit
  have hlength : (basicHead op).length = 2 := rfl
  have hfit : s.plen.toNat ≤ 61 ∧ 2 + s.plen.toNat ≤ 64 := by omega
  have h0 : bufGet (bufOfList 64 (basicHead op ++ bufTake s.pl s.plen.toNat)) 0 = 0x00 :=
    bufGet_frame_head (head := basicHead op) (by omega) (by decide)
  have h1 : bufGet (bufOfList 64 (basicHead op ++ bufTake s.pl s.plen.toNat)) 1 = op :=
    bufGet_frame_head (head := basicHead op) (by omega) (by decide)
  exact ⟨_, (hexec s).trans (basicRequest_admitted hadmit), by rw [hencode, h0, h1, basicHead], h0, h1,
    fun _ => bufGet_frame_payload hlength s.pl hfit, fun _ => bufGet_frame_tail hlength s.pl hfit⟩

/-- Settles O31: a row is an auxiliary opcode, well formed with a length it admits, and ENCODE_EXT builds the frame. -/
theorem extendedRequestsBuildTheirFrames : Obligations.ExtendedRequestsBuildTheirFrames := by
  intro i op n s hmem hwf
  have hop : extInstr op (n.setWidth 16) = some i := by
    simp only [List.mem_cons, List.not_mem_nil, or_false, Prod.mk.injEq] at hmem
    rcases hmem with ⟨rfl, rfl⟩ | ⟨rfl, rfl⟩ | ⟨rfl, rfl⟩ | ⟨rfl, rfl⟩ | ⟨rfl, rfl⟩ | ⟨rfl, rfl⟩ <;> rfl
  obtain ⟨hencode, hexec, -, hlen⟩ := extInstr_some hop
  have hadmit : admitExt op n = true := admitExt_of_lenAdmitted (hlen.symm.trans hwf)
  have hn : n.toNat ≤ 56 := admitExt_le hadmit
  have hlength : (extHead op (n.setWidth 16)).length = 8 := rfl
  have hhead := map_bufGet_frame_head (p := bufTake s.pl n.toNat) (hlength.trans_le (by decide))
  have hopcode : bufGet (bufOfList 64 (extHead op (n.setWidth 16) ++ bufTake s.pl n.toNat)) 5 = op :=
    bufGet_frame_head (head := extHead op (n.setWidth 16)) (by omega) (by decide)
  have hfit : n.toNat ≤ 61 ∧ 8 + n.toNat ≤ 64 := by omega
  exact ⟨_, (hexec s).trans (extRequest_admitted hadmit s), hencode.trans (congrArg Encoded.frame hhead.symm), hopcode,
    fun _ => bufGet_frame_payload hlength s.pl hfit, fun _ => bufGet_frame_tail hlength s.pl hfit⟩

/-- Settles O55: placing a word places the instruction it decodes to. -/
theorem aPlacedTableWordRuns : Obligations.APlacedTableWordRuns := by
  intro s nbits w i h
  have hplaced : s.withFetchWord nbits w = s.issueInstr i := by
    simp only [State.withFetchWord, State.issueTableWord, h]
  rw [hplaced]
  exact step_issueInstr i s

/-- Settles O57: a CMD word is its code beside its ARG, and a BUS word its three fields. -/
theorem encodeInvertsDecode : Obligations.EncodeInvertsDecode := by
  refine ⟨fun w i h => ?_, fun w => ⟨_, rfl, (decodeBus_spec w).1⟩, fun w e h => ?_⟩
  · obtain ⟨hencode, -, -⟩ := decodeCmd_ok h
    rw [hencode, cmdWord, half_bytes]
  · obtain ⟨he, hcode⟩ := decodeCmd_error h
    exact ⟨he, (reservedCode_iff_not_mem _).1 hcode⟩

/-- Settles O58: 0xFF is no core opcode, so the extended header alone says what the frame is. -/
theorem extendedHeadersAreReadWhole : Obligations.ExtendedHeadersAreReadWhole := by
  intro op hi lo p
  refine ⟨fun hop => ?_, fun hop => ⟨_, decodeFrame_ext_unlisted ?_ p⟩⟩
  · obtain ⟨i, hrow⟩ := Option.isSome_iff_exists.1 ((extInstr_isSome_iff op (hi ++ lo)).2 hop)
    obtain ⟨hencode, -, -, -⟩ := extInstr_some hrow
    exact ⟨i, decodeFrame_ext hrow p, by rw [hencode, extHead_append]⟩
  · have hnone := mt (extInstr_isSome_iff op (hi ++ lo)).1 (by omega)
    simpa using hnone

/-- Settles O59: round trips, the LOCK frame with its payload. -/
theorem writtenOutWordsDecode : Obligations.WrittenOutWordsDecode :=
  ⟨decode_encode (.wr 0x001 0x01), decode_encode (.rd 0x006 0x00), decode_encode (.wr 0x244 0x01),
    decode_encode (.encode 0x83), congrArg (Except.map Prod.fst) (decodeFrame_basic (op := 0x83) rfl [0xBB, 0x3D]),
    decode_encode (.customPulse 2)⟩
end

section
/-! The arithmetic of the checksum engine (40_checksum.md R80 to R86): the round is linear and loses no bit, so the feed
is linear and a bijection; then the checksum of a sequence, the reversal, and the bytes of a fold. -/

namespace Sys2Proof.Machine

/-! ## The round and the feed (R80, R81) -/

/-- What a round adds to the shifted register: the polynomial when the bit shifted out was 1. -/
def roundTerm (out : Bool) : Half := if out then Config.crcPoly else 0

theorem crcRound_eq (c : Half) : crcRound c = (c >>> 1) ^^^ roundTerm (c.getLsbD 0) := by
  rw [crcRound, roundTerm]
  cases c.getLsbD 0 with
  | true => rfl
  | false => exact BitVec.xor_zero.symm

theorem roundTerm_xor (x y : Bool) : roundTerm (x ^^ y) = roundTerm x ^^^ roundTerm y := by
  revert x y
  decide

theorem xor_xor_xor_comm {w : Nat} (x y z u : BitVec w) : (x ^^^ y) ^^^ (z ^^^ u) = (x ^^^ z) ^^^ (y ^^^ u) := by ac_rfl

theorem crcRound_xor (c d : Half) : crcRound (c ^^^ d) = crcRound c ^^^ crcRound d := by
  rw [crcRound_eq, crcRound_eq c, crcRound_eq d, BitVec.ushiftRight_xor_distrib, BitVec.getLsbD_xor, roundTerm_xor,
    xor_xor_xor_comm]

/-- The bit a round shifts out comes back at the top: the polynomial has bit 15, and the shifted register has not. -/
theorem crcRound_top (c : Half) : (crcRound c).getLsbD 15 = c.getLsbD 0 := by
  have hterm : ∀ out, (roundTerm out).getLsbD 15 = out := by decide
  rw [crcRound_eq, BitVec.getLsbD_xor, hterm, BitVec.getLsbD_ushiftRight, BitVec.getLsbD_of_ge _ _ (by decide),
    Bool.false_xor]

theorem crcRound_eq_zero_iff (c : Half) : crcRound c = 0 ↔ c = 0 := by
  refine ⟨fun h => ?_, by rintro rfl; decide⟩
  have hlow : c.getLsbD 0 = false := by rw [← crcRound_top, h]; rfl
  have hshift : c >>> 1 = 0 := by
    rw [crcRound_eq, hlow] at h
    exact BitVec.xor_zero.symm.trans h
  apply BitVec.eq_of_getLsbD_eq
  intro i _
  cases i with
  | zero => exact hlow
  | succ i => rw [Nat.add_comm, ← BitVec.getLsbD_ushiftRight, hshift]; simp

theorem crcRounds_xor (k : Nat) (c d : Half) : crcRounds k (c ^^^ d) = crcRounds k c ^^^ crcRounds k d := by
  induction k generalizing c d with
  | zero => rfl
  | succ k ih => rw [crcRounds, crcRound_xor, ih]; rfl

theorem crcRounds_eq_zero_iff (k : Nat) (c : Half) : crcRounds k c = 0 ↔ c = 0 := by
  induction k generalizing c with
  | zero => rfl
  | succ k ih => rw [crcRounds, ih, crcRound_eq_zero_iff]

theorem crcRounds_eq_iterate (k : Nat) (c : Half) : crcRounds k c = crcRound^[k] c := by
  induction k generalizing c with
  | zero => rfl
  | succ k ih => rw [crcRounds, ih, Function.iterate_succ_apply]

theorem and_one_eq_one_iff (c : Half) : c &&& 1 = 1 ↔ c.getLsbD 0 = true := by
  have hmask : c &&& 1 = (BitVec.ofBool (c.getLsbD 0)).setWidth 16 := BitVec.and_one_eq_setWidth_ofBool_getLsbD
  rw [hmask]
  cases c.getLsbD 0 <;> decide

/-- The feed sees the register and the byte only through their XOR (R81 (b)). -/
theorem crcFeed_eq_feed_zero (c : Half) (b : Byte) : crcFeed c b = crcFeed (c ^^^ b.setWidth 16) 0 :=
  congrArg (crcRounds 8) BitVec.xor_zero.symm

theorem crcFeed_xor (c d : Half) (a b : Byte) : crcFeed (c ^^^ d) (a ^^^ b) = crcFeed c a ^^^ crcFeed d b := by
  rw [crcFeed, BitVec.setWidth_xor, xor_xor_xor_comm, crcRounds_xor]
  rfl

theorem crcFeed_eq_zero_iff (c : Half) (b : Byte) : crcFeed c b = 0 ↔ c ^^^ b.setWidth 16 = 0 := crcRounds_eq_zero_iff 8 _

theorem crcFeed_injective (b : Byte) : Function.Injective fun c => crcFeed c b := by
  intro c d (h : crcFeed c b = crcFeed d b)
  have hzero : crcFeed (c ^^^ d) (b ^^^ b) = 0 := by rw [crcFeed_xor, h]; exact BitVec.xor_self
  rw [BitVec.xor_self, crcFeed_eq_zero_iff, BitVec.setWidth_zero, BitVec.xor_zero] at hzero
  exact BitVec.xor_eq_zero_iff.1 hzero

/-! ## The checksum of a sequence (R83) -/

theorem compute_append (l : List Byte) (b : Byte) : compute (l ++ [b]) = crcFeed (compute l) b := List.foldl_concat ..

/-- Zero bytes leave the seed 0 at 0 (R81 (d)). -/
theorem compute_replicate_zero (k : Nat) : compute (List.replicate k 0) = 0 := by
  induction k with
  | zero => rfl
  | succ k ih => rw [List.replicate_succ', compute_append, ih, crcFeed_eq_zero_iff]; rfl

/-! ## The bit reversal (R82, R85) -/

theorem bitrev16_getLsbD (x : Half) {i : Nat} (hi : i < 16) : (bitrev16 x).getLsbD i = x.getLsbD (15 - i) := by
  rw [bitrev16, BitVec.getLsbD_reverse, BitVec.getMsbD_eq_getLsbD, decide_eq_true hi, Bool.true_and]

theorem bitrev16_bitrev16 (x : Half) : bitrev16 (bitrev16 x) = x := by
  apply BitVec.eq_of_getLsbD_eq
  intro i hi
  rw [bitrev16_getLsbD _ hi, bitrev16_getLsbD _ (by omega), Nat.sub_sub_self (by omega)]

theorem outB_getLsbD (c : Half) {i : Nat} (hi : i < 8) :
    (outB c).1.getLsbD i = c.getLsbD (7 - i) ∧ (outB c).2.getLsbD i = c.getLsbD (15 - i) := by
  have hindex : 15 - (8 + i) = 7 - i := by omega
  constructor
  · rw [outB, outA, BitVec.getLsbD_extractLsb', decide_eq_true hi, Bool.true_and, bitrev16_getLsbD _ (by omega), hindex]
  · rw [outB, outA, BitVec.getLsbD_extractLsb', decide_eq_true hi, Bool.true_and, bitrev16_getLsbD _ (by omega),
      Nat.zero_add]

/-! ## The fold (R86) -/

theorem bufGet_foldSerial {s : State} (hfit : s.serlen.toNat ≤ 9) {i : Nat} (hi : i < 128) :
    bufGet (foldSerial s.tpl (serial s)) i = if i < s.serlen.toNat then bufGet s.ser i else bufGet s.tpl i := by
  rw [foldSerial, bufGet_of, if_pos hi, serial, bufTake_getD]
  exact if_congr (and_iff_left_of_imp fun h => h.trans_le hfit) rfl rfl

end Sys2Proof.Machine
end

section
/-! What each checksum command answers (40_checksum.md R87 to R92), and a run of feeds. -/

namespace Sys2Proof.Machine

variable (a : Byte) (s : State)

theorem exec_crcInit : exec (.crcInit a) s = .next { s with lastCmd := 0x01, crc := 0x0000, err := 0x00 } := rfl

theorem exec_crcFeed (b : Byte) :
    exec (.crcFeed b) s = .next { s with arg := b, lastCmd := 0x02, crc := crcFeed s.crc b, err := 0x00 } := rfl

theorem exec_crcCfg_folded (h : s.cfgv = true) :
    exec (.crcCfg a) s = .next { s with lastCmd := 0x03, crc := compute s.cfg.toList, err := 0x00 } :=
  command_ok (c := 0x03) (body := crcCfgBody) (s := s) (if_pos h)

theorem exec_crcCfg_stale (h : s.cfgv = false) :
    exec (.crcCfg a) s = .next { s with lastCmd := 0x03, err := 6, errAcc := s.errAcc ||| 0x20 } :=
  command_error (c := 0x03) (body := crcCfgBody) (s := s) (if_neg (Bool.eq_false_iff.1 h))

theorem exec_fold_fitting (h : s.serlen.toNat ≤ 9) : exec (.fold a) s =
    .next { s with lastCmd := 0x08, cfg := foldSerial s.tpl (serial s), cfgv := true, err := 0x00 } :=
  command_ok (c := 0x08) (body := foldBody) (s := s) (if_neg (Nat.not_lt.2 h))

theorem exec_fold_overlong (h : 9 < s.serlen.toNat) :
    exec (.fold a) s = .next { s with lastCmd := 0x08, err := 5, errAcc := s.errAcc ||| 0x10 } :=
  command_error (c := 0x08) (body := foldBody) (s := s) (if_pos h)

theorem execAll_cons_next {i : Instr} {s t : State} (rest : List Instr) (h : exec i s = .next t) :
    execAll (i :: rest) s = execAll rest t := by rw [execAll, h]

/-- Feeds of the bytes of `l`, begun with ERR at 0, change CRC, and beside it ARG and LASTCMD alone. -/
theorem execAll_crcFeed {s : State} (l : List Byte) (herr : s.err = 0x00) :
    ∃ b c, execAll (l.map .crcFeed) s = .next { s with arg := b, lastCmd := c, crc := l.foldl crcFeed s.crc } := by
  induction l generalizing s with
  | nil => exact ⟨s.arg, s.lastCmd, rfl⟩
  | cons x l ih =>
    obtain ⟨b, c, hrest⟩ := ih (s := { s with arg := x, lastCmd := 0x02, crc := crcFeed s.crc x, err := 0x00 }) rfl
    refine ⟨b, c, ?_⟩
    rw [List.map_cons, execAll_cons_next _ (exec_crcFeed s x), hrest, List.foldl_cons, herr]

end Sys2Proof.Machine
end

section
/-! The statements of 40_checksum.md. -/

open Sys2Proof Sys2Proof.Machine

/-- Settles O5. -/
theorem crcInitLoadsTheSeed : Obligations.CrcInitLoadsTheSeed := fun a s => ⟨decode_cmd_fields 0x01 a, exec_crcInit a s⟩

/-- Settles O6. -/
theorem crcFeedFeedsArg : Obligations.CrcFeedFeedsArg := fun b s => ⟨decode_cmd_fields 0x02 b, exec_crcFeed s b⟩

/-- Settles O7. -/
theorem crcCfgChecksumsAValidFold : Obligations.CrcCfgChecksumsAValidFold := fun a s =>
  ⟨decode_cmd_fields 0x03 a, exec_crcCfg_folded a s, exec_crcCfg_stale a s⟩

/-- Settles O8: the two bytes, put together again, are the register. -/
theorem crcOutAGivesTheBytesHighFirst : Obligations.CrcOutAGivesTheBytesHighFirst := fun a s =>
  ⟨decode_cmd_fields 0x04 a, (outA s.crc).1, (outA s.crc).2, rfl, half_bytes s.crc⟩

/-- Settles O9. -/
theorem crcOutBGivesTheReversedBytes : Obligations.CrcOutBGivesTheReversedBytes := fun a s =>
  ⟨decode_cmd_fields 0x05 a, (outB s.crc).1, (outB s.crc).2, rfl, fun _ hi => outB_getLsbD s.crc hi⟩

/-- Settles O10: a serial that fits is all in SER, so the bytes below SERLEN are its own. -/
theorem foldOverwritesTheSerialBytes : Obligations.FoldOverwritesTheSerialBytes := fun a s =>
  ⟨decode_cmd_fields 0x08 a, fun hfit => ⟨_, exec_fold_fitting a s hfit, fun _ hi => bufGet_foldSerial hfit hi⟩,
    exec_fold_overlong a s⟩

/-- Settles O11: the model's rounds are the iterate of one, and its bit test is that of the rule. -/
theorem crcFeedIsEightRounds : Obligations.CrcFeedIsEightRounds := by
  intro c b
  have hround : crcRound = fun x : Half => if x &&& 1 = 1 then (x >>> 1) ^^^ 0xA001 else x >>> 1 :=
    funext fun x => if_congr (and_one_eq_one_iff x).symm rfl rfl
  rw [crcFeed, crcRounds_eq_iterate, hround]

/-- Settles O12: linearity and the kernel of the round give the feed's; an injection of a finite type is a bijection. -/
theorem crcFeedObeysItsLaws : Obligations.CrcFeedObeysItsLaws := by
  refine ⟨fun c => ?shift, crcFeed_eq_feed_zero, crcFeed_xor, compute_replicate_zero,
    fun b => Finite.injective_iff_bijective.1 (crcFeed_injective b), crcFeed_eq_zero_iff⟩
  case shift =>
    have hc : c.toNat < 2 ^ 16 := c.isLt
    rw [BitVec.toNat_ushiftRight, Nat.shiftRight_eq_div_pow]
    omega

/-- Settles O13. -/
theorem bitReversalMirrorsAllSixteenBits : Obligations.BitReversalMirrorsAllSixteenBits := fun x =>
  ⟨fun _ => bitrev16_getLsbD x, bitrev16_bitrev16 x⟩

/-- Settles O14. -/
theorem computeFeedsEveryByteFromTheSeed : Obligations.ComputeFeedsEveryByteFromTheSeed := ⟨rfl, compute_append⟩

/-- Settles O15: CRC_INIT leaves the seed and ERR at 0, and the feeds fold CFG from there as the checksum does. -/
theorem feedingCfgRefinesCrcCfg : Obligations.FeedingCfgRefinesCrcCfg := by
  intro a s hcfgv
  obtain ⟨b, c, hfeeds⟩ :=
    execAll_crcFeed (s := { s with lastCmd := 0x01, crc := 0x0000, err := 0x00 }) s.cfg.toList rfl
  exact ⟨_, _, (execAll_cons_next _ (exec_crcInit a s)).trans hfeeds, exec_crcCfg_folded a s hcfgv, rfl⟩
end

section
/-! The message of SHA-256: its padding, and the schedule of a block (41_key_derivation.md R100, R102). -/

namespace Sys2Proof.Machine

/-! ## The padding (R100) -/

/-- The zeros fill the last block: the message, 0x80, the zeros and the bit length are whole blocks. -/
theorem shaPadZeros_fills (len : Nat) : (len + 1 + shaPadZeros len + 8) % 64 = 0 := by
  unfold shaPadZeros
  omega

theorem shaPadZeros_least {len j : Nat} (hj : j < shaPadZeros len) : (len + 1 + j + 8) % 64 ≠ 0 := by
  unfold shaPadZeros at hj
  omega

theorem be64_eq_range (n : Nat) : be64 n = (List.range 8).map fun i => BitVec.ofNat 8 (n / 2 ^ (8 * (7 - i))) := by
  simp only [be64, Nat.shiftRight_eq_div_pow]
  rfl

@[simp] theorem be64_length (n : Nat) : (be64 n).length = 8 := rfl

theorem shaPad_length (m : List Byte) : (shaPad m).length = m.length + 1 + shaPadZeros m.length + 8 := by
  simp only [shaPad, List.length_append, List.length_singleton, List.length_replicate, be64_length]

/-- A message that leaves room for the 0x80 and the bit length is padded to one block, and hashed by one compression. -/
theorem sha256_of_length_le {m : List Byte} (h : m.length ≤ 55) :
    sha256 m = shaDigest (shaCompress shaH0 (shaPad m)) := by
  have hlen : (shaPad m).length = 64 := by
    rw [shaPad_length]
    unfold shaPadZeros
    omega
  have hblocks : shaBlocks ((shaPad m).length / 64) (shaPad m) = [shaPad m] := by
    rw [hlen, shaBlocks, List.take_of_length_le hlen.le]
    rfl
  rw [sha256, hblocks]
  rfl

/-! ## The words of a block (R102) -/

theorem shaWords_length : ∀ l : List Byte, (shaWords l).length = l.length / 4
  | [] | [_] | [_, _] | [_, _, _] => by simp [shaWords]
  | _ :: _ :: _ :: _ :: rest => by
    simp only [shaWords, List.length_cons, shaWords_length rest]
    omega

/-- Word `t` is the bytes from `4 * t`, the first one highest. -/
theorem shaWords_getD : ∀ (l : List Byte) {t : Nat}, t < l.length / 4 →
    (shaWords l).getD t 0 =
      l.getD (4 * t) 0 ++ (l.getD (4 * t + 1) 0 ++ (l.getD (4 * t + 2) 0 ++ l.getD (4 * t + 3) 0))
  | [], _, h | [_], _, h | [_, _], _, h | [_, _, _], _, h => absurd h (by simp)
  | _ :: _ :: _ :: _ :: _, 0, _ => rfl
  | _ :: _ :: _ :: _ :: rest, t + 1, h => shaWords_getD rest (by simp only [List.length_cons] at h; omega)

/-! ## The schedule (R102) -/

/-- `W[t]` as the recurrence gives it from the words `w`. -/
def shaRecurrence (w : List Word) (t : Nat) : Word :=
  shaSmallS1 (w.getD (t - 2) 0) + w.getD (t - 7) 0 + shaSmallS0 (w.getD (t - 15) 0) + w.getD (t - 16) 0

/-- The recurrence looks back only: words appended from `t` on do not matter. -/
theorem shaRecurrence_append {w : List Word} {t : Nat} (hpos : 0 < t) (ht : t ≤ w.length) (rest : List Word) :
    shaRecurrence (w ++ rest) t = shaRecurrence w t := by
  have hback (n : Nat) (hn : 0 < n) : (w ++ rest).getD (t - n) 0 = w.getD (t - n) 0 :=
    List.getD_append _ _ _ _ (by omega)
  simp only [shaRecurrence, hback, Nat.ofNat_pos]

/-- The words `w` and the `k` that `shaExtend` adds to them, in the order of the schedule. -/
def shaExtended (k : Nat) (w : List Word) : List Word := (shaExtend k w.reverse).reverse

theorem shaSchedule_eq_extended (block : List Byte) : shaSchedule block = shaExtended 48 (shaWords block) := rfl

@[simp] theorem shaExtended_zero (w : List Word) : shaExtended 0 w = w := List.reverse_reverse w

/-- Extending appends the word of the recurrence. -/
theorem shaExtended_succ (k : Nat) {w : List Word} (h : 16 ≤ w.length) :
    shaExtended (k + 1) w = shaExtended k (w ++ [shaRecurrence w w.length]) := by
  have hlatest (n : Nat) (hn : n < 16) : w.reverse.getD n 0 = w.getD (w.length - (n + 1)) 0 := by
    rw [List.getD_reverse n (by omega), Nat.sub_sub, Nat.add_comm 1 n]
  rw [shaExtended, shaExtend, hlatest 1 (by decide), hlatest 6 (by decide), hlatest 14 (by decide),
    hlatest 15 (by decide), shaExtended, List.reverse_append]
  rfl

/-- Extending keeps the words there are. -/
theorem isPrefix_shaExtended (k : Nat) {w : List Word} (h : 16 ≤ w.length) : w <+: shaExtended k w := by
  induction k generalizing w with
  | zero => rw [shaExtended_zero]
  | succ k ih =>
    rw [shaExtended_succ k h]
    exact .trans ⟨_, rfl⟩ (ih (h.trans (by simp)))

theorem shaExtend_length (k : Nat) (w : List Word) : (shaExtend k w).length = k + w.length := by
  induction k generalizing w with
  | zero => rw [shaExtend, Nat.zero_add]
  | succ k ih => rw [shaExtend, ih, List.length_cons, Nat.add_right_comm, Nat.add_assoc]

/-- Every word that extending adds is the one that the recurrence gives from the words before it. -/
theorem shaExtended_getD (k : Nat) {w : List Word} (h : 16 ≤ w.length) {t : Nat} (hlo : w.length ≤ t)
    (hhi : t < w.length + k) : (shaExtended k w).getD t 0 = shaRecurrence (shaExtended k w) t := by
  induction k generalizing w with
  | zero => omega
  | succ k ih =>
    have hlen : (w ++ [shaRecurrence w w.length]).length = w.length + 1 := List.length_append
    rw [shaExtended_succ k h]
    obtain rfl | hlater := hlo.eq_or_lt
    · obtain ⟨rest, hrest⟩ := isPrefix_shaExtended k (w := w ++ [shaRecurrence w w.length]) (by omega)
      rw [← hrest, List.append_assoc, shaRecurrence_append (by omega) le_rfl,
        List.getD_append_right _ _ _ _ le_rfl, Nat.sub_self]
      rfl
    · exact ih (by omega) (by omega) (by omega)

end Sys2Proof.Machine
end

section
/-! What DERIVE answers, and the bytes of the mask (41_key_derivation.md R95, R104). -/

namespace Sys2Proof.Machine

theorem exec_derive (a : Byte) (s : State) : exec (.derive a) s = .next { s with
    lastCmd := 0x10, mask := deriveMask Config.kdSuffix s.key, maskv := true, err := 0x00 } := rfl

variable (suffix : Buf 7) (key : Buf 32)

theorem bufGet_deriveMask {i : Nat} (hi : i < 36) :
    bufGet (deriveMask suffix key) i = (maskBytes (kdInput suffix key)).getD i 0 :=
  (bufGet_ofList _ i).trans (if_pos hi)

/-- The bytes of `h1`. -/
theorem bufGet_deriveMask_first {i : Nat} (hi : i < 32) :
    bufGet (deriveMask suffix key) i = (sha256 (kdInput suffix key)).getD i 0 := by
  rw [bufGet_deriveMask _ _ (by omega), maskBytes, List.getD_append _ _ _ _ hi]

/-- The first four bytes of `h2`, the hash of `h1` alone. -/
theorem bufGet_deriveMask_second {i : Nat} (hi : i < 4) :
    bufGet (deriveMask suffix key) (32 + i) = (sha256 (sha256 (kdInput suffix key))).getD i 0 := by
  rw [bufGet_deriveMask _ _ (by omega), maskBytes, List.getD_append_right _ _ _ _ (Nat.le_add_right 32 i),
    sha256_length, Nat.add_sub_cancel_left, List.getD_eq_getElem?_getD, List.getElem?_take_of_lt hi,
    ← List.getD_eq_getElem?_getD]

end Sys2Proof.Machine
end

section
/-! The statements of 41_key_derivation.md. -/

open Sys2Proof Sys2Proof.Machine

/-- Settles O16: the input that is hashed is `kdInput`, whatever the suffix. -/
theorem deriveWritesTheChainedHash : Obligations.DeriveWritesTheChainedHash := fun a s =>
  ⟨decode_cmd_fields 0x10 a, deriveMask Config.kdSuffix s.key, exec_derive a s,
    fun _ hi => bufGet_deriveMask_first Config.kdSuffix s.key hi,
    fun _ hi => bufGet_deriveMask_second Config.kdSuffix s.key hi⟩

/-- Settles O17: the number of zeros is the model's own, and only the least number fills the block. -/
theorem shaPaddingFillsWholeBlocks : Obligations.ShaPaddingFillsWholeBlocks := fun m =>
  ⟨shaPadZeros m.length, shaPadZeros_fills m.length, fun _ hj => shaPadZeros_least hj, by
    rw [shaPad, be64_eq_range]⟩

/-- Settles O18: the block gives 16 words, and extending keeps them and adds 48 by the recurrence. -/
theorem shaScheduleFollowsItsRecurrence : Obligations.ShaScheduleFollowsItsRecurrence := by
  intro block hblock
  have hwords : (shaWords block).length = 16 := by rw [shaWords_length, hblock]
  obtain ⟨rest, hrest⟩ := isPrefix_shaExtended 48 hwords.ge
  rw [shaSchedule_eq_extended]
  refine ⟨?length, fun t ht => ?first, fun t hlo hhi => ?later⟩
  case length => rw [shaExtended, List.length_reverse, shaExtend_length, List.length_reverse, hwords]
  case first => rw [← hrest, List.getD_append _ _ _ _ (by omega), shaWords_getD block (by omega)]
  case later => exact shaExtended_getD 48 hwords.ge (by omega) (by omega)

/-- Settles O19: three bytes are padded to one block, whose compression the kernel evaluates. -/
theorem sha256OfAbcIsThePublishedDigest : Obligations.Sha256OfAbcIsThePublishedDigest := by
  rw [Obligations.Sha256OfAbcIsThePublishedDigest, sha256_of_length_le (by decide)]
  decide +kernel
end

section
/-! What the encoders answer, admitted or not, and the header bytes of their frames (42_codec.md R108, R109). -/

namespace Sys2Proof.Machine

variable {op : Byte} {s : State}

theorem basicRequest_refused (h : admitBasic op s.plen = false) :
    basicRequest op s = .next { s with arg := op, lastCmd := 0x20, err := 4, errAcc := s.errAcc ||| 0x08 } :=
  command_error (body := encodeBody) (s := s.withArg op) (if_neg (Bool.eq_false_iff.1 h))

theorem command_encodeExt_refused (h : admitExt s.arg s.plen = false) : command 0x21 encodeExtBody s =
    .next { s with lastCmd := 0x21, err := 4, errAcc := s.errAcc ||| 0x08 } :=
  command_error (c := 0x21) (body := encodeExtBody) (s := s) (if_neg (Bool.eq_false_iff.1 h))

/-- A length that PLEN can hold is left there, refused by ENCODE_EXT; any other leaves PLEN as it was (log 8). -/
theorem extRequest_refused {len : Half} (h : lenAdmitted op len = false) (s : State) : ∃ n, extRequest op len s =
    .next { s with arg := op, plen := n, lastCmd := 0x21, err := 4, errAcc := s.errAcc ||| 0x08 } := by
  by_cases hlen : len.toNat < 256
  · have hadmit : admitExt op (len.setWidth 8) = false := by simpa [lenAdmitted, hlen] using h
    exact ⟨len.setWidth 8, (if_pos hlen).trans
      (command_encodeExt_refused (s := (s.withPlen (len.setWidth 8)).withArg op) hadmit)⟩
  · exact ⟨s.plen, if_neg hlen⟩

/-- The length field of a frame whose length is a byte (30_encoding.md R75). -/
theorem extHead_byte (op n : Byte) : extHead op (n.setWidth 16) = [0x00, 0xFF, 0xFF, 0xFF, 0xFF, op, 0x00, n] := by
  have hn : n.setWidth 16 = (0x00 : Byte) ++ n := BitVec.setWidth_eq_append (by decide)
  rw [hn, extHead_append]

end Sys2Proof.Machine
end

section
/-! What DECODE answers, check by check (42_codec.md R110, 60_exceptions.md R122). -/

namespace Sys2Proof.Machine

variable {s : State}

/-- The branch of DECODE for a class. NONE is refused before, with the same error. -/
def classBody : ResponseClass → State → Except CmdError State
  | .serial => decodeSerial
  | .status => decodeStatus
  | .query => decodeQuery
  | .raw => decodeRaw
  | .none => fun _ => .error .unsupported

/-! ## The checks before the response is read -/

theorem decodeBody_notReady (htxv : s.txv = false) : decodeBody s = .error .notReady := if_pos htxv

theorem decodeBody_extended (htxv : s.txv = true) (htxext : s.txext = true) : decodeBody s = .error .unsupported := by
  simp [decodeBody, htxv, htxext]

section
variable (htxv : s.txv = true) (htxext : s.txext = false)
include htxv htxext

theorem decodeBody_unclassed (hcls : cls (sentOpcode s) = .none) : decodeBody s = .error .unsupported := by
  simp [decodeBody, htxv, htxext, hcls]

theorem decodeBody_short (hcls : cls (sentOpcode s) ≠ .none) (hlen : s.rxlen.toNat < 64) :
    decodeBody s = .error .timeout := by
  simp [decodeBody, htxv, htxext, hcls, Config.frameSize, hlen]

theorem decodeBody_long (hcls : cls (sentOpcode s) ≠ .none) (hlen : 64 < s.rxlen.toNat) :
    decodeBody s = .error .mismatch := by
  simp [decodeBody, htxv, htxext, hcls, Config.frameSize, hlen, Nat.not_lt.2 hlen.le]

theorem decodeBody_whole {k : ResponseClass} (hcls : cls (sentOpcode s) = k) (hlen : s.rxlen = 64) :
    decodeBody s = classBody k s := by
  cases k <;> simp [decodeBody, classBody, htxv, htxext, hcls, Config.frameSize, hlen]

theorem exec_decode_whole {a : Byte} {k : ResponseClass} (hcls : cls (sentOpcode s) = k) (hlen : s.rxlen = 64) :
    exec (.decode a) s = command 0x28 (classBody k) s := by
  show command 0x28 decodeBody s = _
  rw [command, command, decodeBody_whole (s := s.recorded 0x28) htxv htxext hcls hlen]

end

theorem exec_decode_error {a : Byte} {e : CmdError} (h : decodeBody (s.recorded 0x28) = .error e) :
    exec (.decode a) s = .next ((s.recorded 0x28).raised e) := command_error h

/-! ## The branches -/

theorem bufGet_serialReceived (s : State) (n : Byte) {i : Nat} (hi : i < 9) :
    bufGet (s.serialReceived n).ser i = if i < n.toNat then bufGet s.rx (2 + i) else 0x00 := by
  rw [State.serialReceived_ser, bufGet_of, if_pos hi]

theorem classBody_otherEcho {k : ResponseClass} (hk : k ∈ [.serial, .status, .query])
    (hecho : bufGet s.rx 0 ≠ sentOpcode s) : classBody k s = .error .mismatch := by
  simp only [List.mem_cons, List.not_mem_nil, or_false] at hk
  obtain rfl | rfl | rfl := hk <;> exact if_pos hecho

section
variable (hecho : bufGet s.rx 0 = sentOpcode s)
include hecho

theorem decodeSerial_overlong (hn : 9 < (bufGet s.rx 1).toNat) : decodeSerial s = .error .mismatch :=
  (if_neg (not_not.2 hecho)).trans (if_pos hn)

theorem decodeSerial_fitting (hn : (bufGet s.rx 1).toNat ≤ 9) :
    decodeSerial s = .ok ((s.serialReceived (bufGet s.rx 1)).received 2 (bufGet s.rx 1)) :=
  (if_neg (not_not.2 hecho)).trans (if_neg (Nat.not_lt.2 hn))

theorem decodeStatus_failure (hstatus : bufGet s.rx 1 ≠ 0x01) : decodeStatus s = .error .device :=
  (if_neg (not_not.2 hecho)).trans (if_pos hstatus)

theorem decodeStatus_success (hstatus : bufGet s.rx 1 = 0x01) : decodeStatus s = .ok (s.received 2 62) :=
  (if_neg (not_not.2 hecho)).trans (if_neg (not_not.2 hstatus))

theorem decodeQuery_echoed : decodeQuery s =
    .ok (({ s with configured := bufGet s.rx 1 == Config.success } : State).received 2 62) := if_neg (not_not.2 hecho)

end

end Sys2Proof.Machine
end

section
/-! The statements of 42_codec.md. -/

open Sys2Proof Sys2Proof.Machine

/-- Settles O22: an opcode of its own row by evaluation, any other by its distance from the core opcodes. -/
theorem basicAdmissionFollowsItsTable : Obligations.BasicAdmissionFollowsItsTable := by
  intro op n
  unfold admitBasic
  split
  case h_9 =>
    rw [decide_eq_true_eq]
    simp only [List.mem_cons, List.not_mem_nil, or_false, imp_false, ← BitVec.toNat_inj, BitVec.reduceToNat,
      Config.payloadMax] at *
    omega
  all_goals
    next hop =>
    obtain rfl := byte_eq_of_toNat hop
    simp

/-- Settles O23: as O22, for the auxiliary and the core opcodes. -/
theorem extAdmissionFollowsItsTable : Obligations.ExtAdmissionFollowsItsTable := by
  intro op n
  unfold admitExt
  split
  case h_15 =>
    rw [decide_eq_true_eq]
    simp only [List.mem_cons, List.not_mem_nil, or_false, imp_false, ← BitVec.toNat_inj, BitVec.reduceToNat,
      Config.extPayloadMax] at *
    omega
  all_goals
    next hop =>
    obtain rfl := byte_eq_of_toNat hop
    simp

/-- Settles O24: as O22, class by class. -/
theorem responseClassFollowsItsTable : Obligations.ResponseClassFollowsItsTable := by
  intro op
  unfold cls
  split
  case h_9 =>
    simp only [List.mem_cons, List.not_mem_nil, or_false, imp_false, ← BitVec.toNat_inj, BitVec.reduceToNat,
      reduceCtorEq, false_iff, true_iff] at *
    omega
  all_goals
    next hop =>
    obtain rfl := byte_eq_of_toNat hop
    simp

/-- Settles O20: the command word runs as the basic request of its operand; an admitted payload ends within TX. -/
theorem encodeBuildsTheBasicFrame : Obligations.EncodeBuildsTheBasicFrame := by
  intro op s
  refine ⟨decode_cmd_fields 0x20 op, fun hadmit => ?_, basicRequest_refused⟩
  have hn : s.plen.toNat ≤ 61 := admitBasic_le hadmit
  have hfit : s.plen.toNat ≤ 61 ∧ 2 + s.plen.toNat ≤ 64 := by omega
  exact ⟨_, basicRequest_admitted hadmit, bufGet_frame_head (head := basicHead op) (by simp [basicHead]) (by decide),
    bufGet_frame_head (head := basicHead op) (by simp [basicHead]) (by decide),
    fun _ => bufGet_frame_payload rfl s.pl hfit, fun _ => bufGet_frame_tail (head := basicHead op) rfl s.pl hfit⟩

/-- Settles O21: as O20, with a header of eight bytes. -/
theorem encodeExtBuildsTheExtendedFrame : Obligations.EncodeExtBuildsTheExtendedFrame := by
  intro op s
  refine ⟨decode_cmd_fields 0x21 op, fun hadmit => ?_, command_encodeExt_refused (s := s.withArg op)⟩
  have hn : s.plen.toNat ≤ 56 := admitExt_le hadmit
  have hfit : s.plen.toNat ≤ 61 ∧ 8 + s.plen.toNat ≤ 64 := by omega
  have hhead {k : Nat} (hk : k < 8) :
      bufGet (bufOfList 64 (extHead op (s.plen.setWidth 16) ++ bufTake s.pl s.plen.toNat)) k =
        [0x00, 0xFF, 0xFF, 0xFF, 0xFF, op, 0x00, s.plen][k] := by
    rw [extHead_byte, bufGet_frame_head hk (by omega)]
  refine ⟨_, command_encodeExt_admitted (s := s.withArg op) hadmit, hhead (by decide), fun i hlo hhi => ?_,
    hhead (by decide), hhead (by decide), hhead (by decide),
    fun _ => bufGet_frame_payload rfl s.pl hfit,
    fun _ => bufGet_frame_tail (head := extHead op (s.plen.setWidth 16)) rfl s.pl hfit⟩
  refine (hhead (by omega)).trans ?_
  interval_cases i <;> rfl

/-- Settles O32: a basic row admits one length alone, and an ill-formed extended row none that PLEN can hold. -/
theorem requestsOfOtherLengthsRaiseLen : Obligations.RequestsOfOtherLengthsRaiseLen := by
  refine ⟨fun i op n s hmem hplen => ?basic, fun i op len s hmem hwf => ?ext⟩
  case basic =>
    have hrow : basicInstr op = some i ∧ ∀ m, admitBasic op m = (m == n) := by
      simp only [List.mem_cons, List.not_mem_nil, or_false, Prod.mk.injEq] at hmem
      rcases hmem with ⟨rfl, rfl, rfl⟩ | ⟨rfl, rfl, rfl⟩ | ⟨rfl, rfl, rfl⟩ | ⟨rfl, rfl, rfl⟩ | ⟨rfl, rfl, rfl⟩ |
        ⟨rfl, rfl, rfl⟩ | ⟨rfl, rfl, rfl⟩ | ⟨rfl, rfl, rfl⟩ <;> exact ⟨rfl, fun _ => rfl⟩
    obtain ⟨hop, hadmit⟩ := hrow
    obtain ⟨-, hexec, -⟩ := basicInstr_some hop
    rw [hexec, basicRequest_refused ((hadmit _).trans (beq_false_of_ne hplen))]
  case ext =>
    have hop : extInstr op len = some i := by
      simp only [List.mem_cons, List.not_mem_nil, or_false, Prod.mk.injEq] at hmem
      rcases hmem with ⟨rfl, rfl⟩ | ⟨rfl, rfl⟩ | ⟨rfl, rfl⟩ | ⟨rfl, rfl⟩ | ⟨rfl, rfl⟩ | ⟨rfl, rfl⟩ <;> rfl
    obtain ⟨-, hexec, -, hlen⟩ := extInstr_some hop
    obtain ⟨n, hnext⟩ := extRequest_refused (hlen.symm.trans hwf) s
    exact ⟨_, (hexec s).trans hnext, rfl, rfl, rfl, rfl, rfl, rfl⟩

/-- Settles O25: one check of DECODE for each clause, in the order of the checks. -/
theorem decodeReportsTheFirstFailure : Obligations.DecodeReportsTheFirstFailure := by
  intro a s fails
  refine ⟨fun htxv => exec_decode_error (decodeBody_notReady htxv),
    fun htxv htxext => exec_decode_error (decodeBody_extended htxv htxext),
    fun htxv htxext hcls => exec_decode_error (decodeBody_unclassed htxv htxext hcls),
    fun htxv htxext hcls hlen => exec_decode_error (decodeBody_short htxv htxext hcls hlen),
    fun htxv htxext hcls hlen => exec_decode_error (decodeBody_long htxv htxext hcls hlen),
    fun htxv htxext hcls hlen hecho => (exec_decode_whole htxv htxext rfl hlen).trans ?echo,
    fun htxv htxext hcls hlen hecho hn => (exec_decode_whole htxv htxext hcls hlen).trans ?serial,
    fun htxv htxext hcls hlen hecho hstatus => (exec_decode_whole htxv htxext hcls hlen).trans ?status⟩
  case echo => exact command_error (classBody_otherEcho (s := s.recorded 0x28) hcls hecho)
  case serial => exact command_error (decodeSerial_overlong (s := s.recorded 0x28) hecho hn)
  case status => exact command_error (decodeStatus_failure (s := s.recorded 0x28) hecho hstatus)

/-- Settles O26: 0x80 is the opcode of class SERIAL, whose branch makes the two checks that the premises pass. -/
theorem decodeAcceptsASerial : Obligations.DecodeAcceptsASerial := by
  intro a s htxv htxext hop hlen hecho hn
  obtain ⟨hserial, -⟩ := responseClassFollowsItsTable (bufGet s.tx 1)
  refine ⟨(s.serialReceived (bufGet s.rx 1)).ser, ?_, fun i hi => bufGet_serialReceived s (bufGet s.rx 1) hi⟩
  rw [exec_decode_whole htxv htxext (hserial.2 hop) hlen, ← hecho]
  exact command_ok (decodeSerial_fitting (s := s.recorded 0x28) (hecho.trans hop.symm) hn)

/-- Settles O27: an opcode of class STATUS, with its echo and the status of success. -/
theorem decodeAcceptsASuccessStatus : Obligations.DecodeAcceptsASuccessStatus := by
  intro a s htxv htxext hop hlen hecho hok
  obtain ⟨-, hstatus, -⟩ := responseClassFollowsItsTable (bufGet s.tx 1)
  rw [exec_decode_whole htxv htxext (hstatus.2 hop) hlen, ← hok]
  exact command_ok (decodeStatus_success (s := s.recorded 0x28) hecho hok)

/-- Settles O28: the QUERY branch checks the echo and not the status byte. -/
theorem decodeAnswersTheQuery : Obligations.DecodeAnswersTheQuery := by
  intro a s htxv htxext hop hlen hecho
  obtain ⟨-, -, hquery, -⟩ := responseClassFollowsItsTable (bufGet s.tx 1)
  rw [exec_decode_whole htxv htxext (hquery.2 hop) hlen, ← hecho]
  exact command_ok (decodeQuery_echoed (s := s.recorded 0x28) (hecho.trans hop.symm))

/-- Settles O29: the RAW branch makes no check. -/
theorem decodeAcceptsAnyKeyMaterial : Obligations.DecodeAcceptsAnyKeyMaterial := by
  intro a s htxv htxext hop hlen
  obtain ⟨-, -, -, hraw, -⟩ := responseClassFollowsItsTable (bufGet s.tx 1)
  exact exec_decode_whole htxv htxext (hraw.2 hop) hlen
end

section
/-! What the control commands and the reserved codes answer (43_control.md R113 to R115). -/

namespace Sys2Proof.Machine

variable (a : Byte) (s : State)

theorem exec_nop : exec (.nop a) s = .next { s with lastCmd := 0x00, err := 0x00 } :=
  command_ok (c := 0x00) (body := .ok) (s := s) rfl

theorem exec_clrErr : exec (.clrErr a) s = .next { s with lastCmd := 0x7E, errAcc := 0x00, err := 0x00 } :=
  command_ok (c := 0x7E) (body := clrErrBody) (s := s) rfl

theorem exec_wr_cmd_reserved {v : Byte} (h : reservedCode v) :
    exec (.wr 0x000 v) s = .next { s with lastCmd := v, err := 7, errAcc := s.errAcc ||| 0x40 } := by
  have hbody : commandBody v (s.recorded v) = .error .badCmd := by rw [commandBody_reserved h]
  rw [exec_wr_cmd, command_error hbody]
  rfl

end Sys2Proof.Machine
end

section
/-! The statements of 43_control.md. -/

open Sys2Proof Sys2Proof.Machine

/-- Settles O3: a code outside the list has the body that raises BADCMD, code 7 and ERRACC bit 6. -/
theorem reservedCodesRaiseBadCmd : Obligations.ReservedCodesRaiseBadCmd := fun v s hv =>
  exec_wr_cmd_reserved s ((reservedCode_iff_not_mem v).2 hv)

/-- Settles O1. -/
theorem nopClearsErrAlone : Obligations.NopClearsErrAlone := fun a s => ⟨decode_cmd_fields 0x00 a, exec_nop a s⟩

/-- Settles O2. -/
theorem clrErrClearsTheErrorRecord : Obligations.ClrErrClearsTheErrorRecord := fun a s =>
  ⟨decode_cmd_fields 0x7E a, exec_clrErr a s⟩
end

section
/-! How a write to CMD ends (60_exceptions.md R118 to R121), and that a step ends at all. -/

namespace Sys2Proof.Machine

variable {s t u : State} {c v : Byte}

/-- A write to CMD ends with the effect of its command, or with the record of its error alone. -/
theorem exec_wr_cmd_next (h : exec (.wr 0x000 v) s = .next t) :
    (∃ u, CommandEffect (s.recorded v) v u ∧ t = u.succeeded) ∨ ∃ e, t = (s.recorded v).raised e := by
  rw [exec_wr_cmd] at h
  obtain ⟨u, hu, ht⟩ | ⟨e, -, ht⟩ := command_next h
  · exact .inl ⟨u, commandEffect_of_commandBody hu, ht⟩
  · exact .inr ⟨e, ht⟩

theorem CommandEffect.lastCmd_eq (he : CommandEffect s c u) : u.lastCmd = s.lastCmd := by
  cases he <;> rfl

/-- CLR_ERR is the only command that touches ERRACC when it succeeds (10_state.md R25). -/
theorem CommandEffect.errAcc_eq (he : CommandEffect s c u) : u.errAcc = if c = 0x7E then 0x00 else s.errAcc := by
  cases he <;> rfl

/-- The record of an error: its code `c` in ERR and the ERRACC bit `c - 1` (10_state.md R25). -/
theorem raised_recorded_eq (s : State) (v : Byte) (e : CmdError) : (s.recorded v).raised e =
    { s with lastCmd := v, err := e.code, errAcc := s.errAcc ||| (1 <<< (e.code.toNat - 1)) } := rfl

theorem step_reset {o : Option BusWord} {rest : List BusEvent} (h : s.pending = .reset o :: rest) :
    step s = .next ((s.withPending rest).resetAsserted o) := by
  simp only [step, fetch, h]

theorem step_answers (s : State) : ∃ t, step s = .next t := by
  match hp : s.pending with
  | [] => exact ⟨s, step_idle hp⟩
  | .reset o :: rest => exact ⟨_, step_reset hp⟩
  | .transaction w :: rest =>
    rw [step_transaction hp]
    exact exec_answers (decodeBus w) _

end Sys2Proof.Machine
end

section
/-! The statements of 60_exceptions.md. -/

open Sys2Proof Sys2Proof.Machine

/-- Settles O40: a command that succeeds leaves 0 in ERR, so one that does not leaves the record of its error. -/
theorem failedCommandsArePrecise : Obligations.FailedCommandsArePrecise := by
  intro v s t h herr
  obtain ⟨u, -, rfl⟩ | ⟨e, rfl⟩ := exec_wr_cmd_next h
  · exact absurd rfl herr
  · exact raised_recorded_eq s v e

/-- Settles O41, from the two ends of a write to CMD: success leaves 0 in ERR, and an error leaves a code from 1 to 8. -/
theorem successfulCommandsKeepTheErrorRecord : Obligations.SuccessfulCommandsKeepTheErrorRecord := by
  intro v s t h
  obtain ⟨u, effect, rfl⟩ | ⟨e, rfl⟩ := exec_wr_cmd_next h
  · exact ⟨effect.lastCmd_eq, Nat.zero_le _, fun _ => effect.errAcc_eq⟩
  · exact ⟨rfl, e.code_le, fun herr => absurd herr e.code_ne_zero⟩

/-- Settles O49. -/
theorem everyStepAnswersANextState : Obligations.EveryStepAnswersANextState := ⟨exec_answers, step_answers⟩
end

section
/-! An assertion of reset, over a transaction or not (70_reset_and_hazards.md R137, R138, log 13), and a fold gone stale
(R143). -/

namespace Sys2Proof.Machine

/-! ## The assertion of reset -/

/-- The model's own fields are no part of any item. -/
theorem readItem_withPort (it : Item) (s : State) (d : Byte) (p : List BusEvent) (k : Nat) :
    readItem it { s with rdata := d, pending := p, openReads := k } = readItem it s := by
  cases it <;> rfl

/-- Reset leaves the reset state but for the model's own fields. Only a read that it overlaps changes the port's data,
and counts as one more of them (log 3). -/
theorem resetAsserted_eq (s : State) (o : Option BusWord) : ∃ d k,
    s.resetAsserted o = { State.reset with rdata := d, pending := s.pending, openReads := k } ∧
      ((d = s.rdata ∧ k = s.openReads) ∨ (d = Config.resetReadByte s.openReads ∧ k = s.openReads + 1)) := by
  cases o with
  | none => exact ⟨_, _, rfl, .inl ⟨rfl, rfl⟩⟩
  | some w =>
    by_cases hwrite : w.getLsbD 18 = true
    · exact ⟨_, _, if_pos hwrite, .inl ⟨rfl, rfl⟩⟩
    · exact ⟨_, _, if_neg hwrite, .inr ⟨rfl, rfl⟩⟩

/-! ## A write to an input of the fold -/

/-- A write to TPL, SER or SERLEN lowers CFGV and leaves CFG and CRC. -/
theorem exec_wr_foldInput {a : Addr}
    (ha : a.toNat = 0x011 ∨ (0x100 ≤ a.toNat ∧ a.toNat ≤ 0x17F) ∨ (0x244 ≤ a.toNat ∧ a.toNat ≤ 0x24C)) (v : Byte)
    (s : State) : ∃ t, exec (.wr a v) s = .next t ∧ t.cfgv = false ∧ t.cfg = s.cfg ∧ t.crc = s.crc := by
  have hinput : (itemAt a).foldInput = true := (itemAt_standsAt a).foldInput_iff.2 ha
  exact ⟨_, exec_wr_of_pos (by omega) v s, by rw [writeItem_cfgv, if_pos hinput], writeItem_keeps (fun _ => rfl) _ _ _,
    writeItem_keeps (fun _ => rfl) _ _ _⟩

end Sys2Proof.Machine
end

section
/-! The statements of 70_reset_and_hazards.md. -/

open Sys2Proof Sys2Proof.Machine

/-- Settles O47: the write lowers CFGV, CRC_CFG refuses while it is 0, and a FOLD that succeeds raises it (O42). -/
theorem aStaleFoldIsNotChecksummed : Obligations.AStaleFoldIsNotChecksummed := by
  intro a v x s ha
  obtain ⟨t, hwrite, hstale, hcfg, hcrc⟩ := exec_wr_foldInput ha v s
  obtain ⟨foldRaisesCfgv, -⟩ := cfgvChangesOnlyAsItsRuleSays
  refine ⟨t, _, hwrite, hcfg, exec_crcCfg_stale x t hstale, rfl, hcrc, fun w hfold herr => ?_⟩
  have hfresh : w.cfgv = true := foldRaisesCfgv x t w hfold herr
  exact ⟨_, exec_crcCfg_folded x w hfresh, rfl⟩

/-- Settles O53: the step is the assertion of reset, which leaves only the model's own fields other than at reset. -/
theorem assertingResetRestoresEveryItem : Obligations.AssertingResetRestoresEveryItem := by
  intro s o rest hpending
  obtain ⟨d, k, hreset, hport⟩ := resetAsserted_eq (s.withPending rest) o
  refine ⟨_, (step_reset hpending).trans (congrArg _ hreset), fun a => readItem_withPort _ _ _ _ _, rfl, rfl, ?_⟩
  obtain ⟨hkept, -⟩ | ⟨hunspecified, -⟩ := hport
  · exact .inl hkept
  · exact .inr hunspecified
end
